-- ==== Sys2Proof/Word.lean ====
section
/-! DEFINITION. The words of the machine (spec 00_scope.md R6, R8) and the names of the values that the
fields of a control word and of an opcode take (30_encoding.md R70 to R77, R81). The numbers of these names
and the layout of the fields are in Sys2Proof/Decode.lean. -/

namespace Sys2Proof

/-- Half of a data byte: the width of one ALU slice (R150). -/
abbrev Nibble := BitVec 4

/-- `DATA_W` = 8: every data register, both data buses, every memory cell (R6). -/
abbrev Byte := BitVec 8

/-- `ADDR_W` = 16: the address bus and the pairs `PC`, `SP`, `BP`, `MA` (R6). -/
abbrev Addr := BitVec 16

/-- `CW_W` = 16: one control word as bits, the byte of bank 1 above the byte of bank 0 (R70). -/
abbrev CtrlBits := BitVec 16

/-- `ROM_ADDR_W` = 15: an index into the control store (R80). -/
abbrev RomAddr := BitVec 15

/-- The four general registers, the slots 0 to 3 of the register file (10_state.md R20). -/
inductive Slot where
  | A | B | X | Y
  deriving DecidableEq, Repr

/-- `busAR`: the eight sources of the primary bus, in the order of R72. -/
inductive BusAR where
  | reg | d | input | t | mem | pc | sp | bp
  deriving DecidableEq, Repr

/-- `busAW`: the sixteen sinks of the primary bus, in the order of R74. -/
inductive BusAW where
  | reg | d | alu | mem | out | pc | sp | bp | ma
  | pcInc | spInc | spDec | bpInc | bpDec | rst | adv
  deriving DecidableEq, Repr

/-- `busB`: the source of the secondary bus; `reg` is also the low half of a pair, `d` the high half (R73). -/
inductive BusB where
  | reg | d
  deriving DecidableEq, Repr

/-- `busC`: the pair that drives the address bus; `bp` is the source's "index pair" (R75). -/
inductive BusC where
  | pc | ma | sp | bp
  deriving DecidableEq, Repr

/-- `aluMode`: 0 arithmetic, 1 logic (R77). -/
inductive AluMode where
  | arith | logic
  deriving DecidableEq, Repr

/-- The three ALU fields of a control word: `aluSelect` (`S3 S2 S1 S0`, R76), `aluMode`, `aluCarryIn` (R77). -/
structure AluFields where
  select : BitVec 4
  mode : AluMode
  carryIn : Bool
  deriving DecidableEq, Repr

/-- A control word as its seven fields (R70): every combination is legal (R78). -/
structure ControlWord where
  busAR : BusAR
  busAW : BusAW
  busB : BusB
  busC : BusC
  alu : AluFields
  deriving DecidableEq, Repr

end Sys2Proof
end

