-- ==== Sys2Proof/Syntax.lean ====
section
/-! DEFINITION. The instructions: one constructor per row of spec/opcode_table.json, in the table's order.
The table has rows of two levels (00_scope.md R2).

Format `CW`, the control word that the sequencer decodes in every micro-cycle (30_encoding.md R70). Each row fixes
SOME fields of the word: a sink row fixes `busAW`, a source row `busAR`, `busB` or `busC`, an ALU-function row `busAW`
with `aluSelect` and `aluMode`, the fetch row the whole word. The constructor of a row has the fields the row leaves
open as its arguments, so a constructor with its arguments is one whole control word; a control word has several such
readings, all with one meaning (Sys2Proof/Decode.lean says which of them the decoder answers).

Format `OP8`, the opcodes of the reference control store XREF-1 (45_reference_rom.md R222 to R260) with their
operand bytes (30_encoding.md R82). -/

namespace Sys2Proof

/-- The instructions of spec/opcode_table.json. -/
inductive Instr where
  /-- `AW.REG` (R130). -/
  | awReg (ar : BusAR) (b : BusB) (c : BusC) (alu : AluFields)
  /-- `AW.D` (R131). -/
  | awD (ar : BusAR) (b : BusB) (c : BusC) (alu : AluFields)
  /-- `AW.ALU` (R132). -/
  | awAlu (ar : BusAR) (b : BusB) (c : BusC) (alu : AluFields)
  /-- `AW.MEM` (R133). -/
  | awMem (ar : BusAR) (b : BusB) (c : BusC) (alu : AluFields)
  /-- `AW.OUT` (R134). -/
  | awOut (ar : BusAR) (b : BusB) (c : BusC) (alu : AluFields)
  /-- `AW.PC` (R135). -/
  | awPc (ar : BusAR) (b : BusB) (c : BusC) (alu : AluFields)
  /-- `AW.SP` (R136). -/
  | awSp (ar : BusAR) (b : BusB) (c : BusC) (alu : AluFields)
  /-- `AW.BP` (R137). -/
  | awBp (ar : BusAR) (b : BusB) (c : BusC) (alu : AluFields)
  /-- `AW.MA` (R138). -/
  | awMa (ar : BusAR) (b : BusB) (c : BusC) (alu : AluFields)
  /-- `AW.PC_INC` (R140). -/
  | awPcInc (ar : BusAR) (b : BusB) (c : BusC) (alu : AluFields)
  /-- `AW.SP_INC` (R141). -/
  | awSpInc (ar : BusAR) (b : BusB) (c : BusC) (alu : AluFields)
  /-- `AW.SP_DEC` (R142). -/
  | awSpDec (ar : BusAR) (b : BusB) (c : BusC) (alu : AluFields)
  /-- `AW.BP_INC` (R143). -/
  | awBpInc (ar : BusAR) (b : BusB) (c : BusC) (alu : AluFields)
  /-- `AW.BP_DEC` (R144). -/
  | awBpDec (ar : BusAR) (b : BusB) (c : BusC) (alu : AluFields)
  /-- `AW.RST` (R146). -/
  | awRst (ar : BusAR) (b : BusB) (c : BusC) (alu : AluFields)
  /-- `AW.ADV` (R145). -/
  | awAdv (ar : BusAR) (b : BusB) (c : BusC) (alu : AluFields)
  /-- `AR.REG` (R114). -/
  | arReg (w : BusAW) (b : BusB) (c : BusC) (alu : AluFields)
  /-- `AR.D` (R115). -/
  | arD (w : BusAW) (b : BusB) (c : BusC) (alu : AluFields)
  /-- `AR.IN` (R116). -/
  | arIn (w : BusAW) (b : BusB) (c : BusC) (alu : AluFields)
  /-- `AR.T` (R117). -/
  | arT (w : BusAW) (b : BusB) (c : BusC) (alu : AluFields)
  /-- `AR.MEM` (R118). -/
  | arMem (w : BusAW) (b : BusB) (c : BusC) (alu : AluFields)
  /-- `AR.PC` (R119). -/
  | arPc (w : BusAW) (b : BusB) (c : BusC) (alu : AluFields)
  /-- `AR.SP` (R120). -/
  | arSp (w : BusAW) (b : BusB) (c : BusC) (alu : AluFields)
  /-- `AR.BP` (R121). -/
  | arBp (w : BusAW) (b : BusB) (c : BusC) (alu : AluFields)
  /-- `BB.REG` (R122). -/
  | bbReg (ar : BusAR) (w : BusAW) (c : BusC) (alu : AluFields)
  /-- `BB.D` (R123). -/
  | bbD (ar : BusAR) (w : BusAW) (c : BusC) (alu : AluFields)
  /-- `BC.PC` (R110). -/
  | bcPc (ar : BusAR) (w : BusAW) (b : BusB) (alu : AluFields)
  /-- `BC.MA` (R111). -/
  | bcMa (ar : BusAR) (w : BusAW) (b : BusB) (alu : AluFields)
  /-- `BC.SP` (R112). -/
  | bcSp (ar : BusAR) (w : BusAW) (b : BusB) (alu : AluFields)
  /-- `BC.BP` (R113). -/
  | bcBp (ar : BusAR) (w : BusAW) (b : BusB) (alu : AluFields)
  /-- `ARITH 0` (R154). -/
  | arith0 (ar : BusAR) (b : BusB) (c : BusC) (cin : Bool)
  /-- `ARITH 1` (R155). -/
  | arith1 (ar : BusAR) (b : BusB) (c : BusC) (cin : Bool)
  /-- `ARITH 2` (R156). -/
  | arith2 (ar : BusAR) (b : BusB) (c : BusC) (cin : Bool)
  /-- `ARITH 3` (R157). -/
  | arith3 (ar : BusAR) (b : BusB) (c : BusC) (cin : Bool)
  /-- `ARITH 4` (R158). -/
  | arith4 (ar : BusAR) (b : BusB) (c : BusC) (cin : Bool)
  /-- `ARITH 5` (R159). -/
  | arith5 (ar : BusAR) (b : BusB) (c : BusC) (cin : Bool)
  /-- `ARITH 6` (R160). -/
  | arith6 (ar : BusAR) (b : BusB) (c : BusC) (cin : Bool)
  /-- `ARITH 7` (R161). -/
  | arith7 (ar : BusAR) (b : BusB) (c : BusC) (cin : Bool)
  /-- `ARITH 8` (R162). -/
  | arith8 (ar : BusAR) (b : BusB) (c : BusC) (cin : Bool)
  /-- `ARITH 9` (R163). -/
  | arith9 (ar : BusAR) (b : BusB) (c : BusC) (cin : Bool)
  /-- `ARITH 10` (R164). -/
  | arith10 (ar : BusAR) (b : BusB) (c : BusC) (cin : Bool)
  /-- `ARITH 11` (R165). -/
  | arith11 (ar : BusAR) (b : BusB) (c : BusC) (cin : Bool)
  /-- `ARITH 12` (R166). -/
  | arith12 (ar : BusAR) (b : BusB) (c : BusC) (cin : Bool)
  /-- `ARITH 13` (R167). -/
  | arith13 (ar : BusAR) (b : BusB) (c : BusC) (cin : Bool)
  /-- `ARITH 14` (R168). -/
  | arith14 (ar : BusAR) (b : BusB) (c : BusC) (cin : Bool)
  /-- `ARITH 15` (R169). -/
  | arith15 (ar : BusAR) (b : BusB) (c : BusC) (cin : Bool)
  /-- `LOGIC 0` (R170). -/
  | logic0 (ar : BusAR) (b : BusB) (c : BusC) (cin : Bool)
  /-- `LOGIC 1` (R171). -/
  | logic1 (ar : BusAR) (b : BusB) (c : BusC) (cin : Bool)
  /-- `LOGIC 2` (R172). -/
  | logic2 (ar : BusAR) (b : BusB) (c : BusC) (cin : Bool)
  /-- `LOGIC 3` (R173). -/
  | logic3 (ar : BusAR) (b : BusB) (c : BusC) (cin : Bool)
  /-- `LOGIC 4` (R174). -/
  | logic4 (ar : BusAR) (b : BusB) (c : BusC) (cin : Bool)
  /-- `LOGIC 5` (R175). -/
  | logic5 (ar : BusAR) (b : BusB) (c : BusC) (cin : Bool)
  /-- `LOGIC 6` (R176). -/
  | logic6 (ar : BusAR) (b : BusB) (c : BusC) (cin : Bool)
  /-- `LOGIC 7` (R177). -/
  | logic7 (ar : BusAR) (b : BusB) (c : BusC) (cin : Bool)
  /-- `LOGIC 8` (R178). -/
  | logic8 (ar : BusAR) (b : BusB) (c : BusC) (cin : Bool)
  /-- `LOGIC 9` (R179). -/
  | logic9 (ar : BusAR) (b : BusB) (c : BusC) (cin : Bool)
  /-- `LOGIC 10` (R180). -/
  | logic10 (ar : BusAR) (b : BusB) (c : BusC) (cin : Bool)
  /-- `LOGIC 11` (R181). -/
  | logic11 (ar : BusAR) (b : BusB) (c : BusC) (cin : Bool)
  /-- `LOGIC 12` (R182). -/
  | logic12 (ar : BusAR) (b : BusB) (c : BusC) (cin : Bool)
  /-- `LOGIC 13` (R183). -/
  | logic13 (ar : BusAR) (b : BusB) (c : BusC) (cin : Bool)
  /-- `LOGIC 14` (R184). -/
  | logic14 (ar : BusAR) (b : BusB) (c : BusC) (cin : Bool)
  /-- `LOGIC 15` (R185). -/
  | logic15 (ar : BusAR) (b : BusB) (c : BusC) (cin : Bool)
  /-- The fetch, which is the no-op word 0x007C (R85). -/
  | fetch
  /-- `NOP` (R222). -/
  | nop
  /-- `HLT` (R223). -/
  | hlt
  /-- `OUT r` (R224). -/
  | outR (r : Slot)
  /-- `IN r` (R225). -/
  | inR (r : Slot)
  /-- `MOVI r, imm8` (R226). -/
  | movi (r : Slot) (imm : Byte)
  /-- `ADD r1, r2` (R227). -/
  | add (r1 r2 : Slot)
  /-- `SUB r1, r2` (R228). -/
  | sub (r1 r2 : Slot)
  /-- `AND r1, r2` (R229). -/
  | and (r1 r2 : Slot)
  /-- `OR r1, r2` (R230). -/
  | or (r1 r2 : Slot)
  /-- `XOR r1, r2` (R231). -/
  | xor (r1 r2 : Slot)
  /-- `ADDI r, imm8` (R232). -/
  | addi (r : Slot) (imm : Byte)
  /-- `SUBI r, imm8` (R233). -/
  | subi (r : Slot) (imm : Byte)
  /-- `ADCI r, imm8` (R234). -/
  | adci (r : Slot) (imm : Byte)
  /-- `CMPI r, imm8` (R235). -/
  | cmpi (r : Slot) (imm : Byte)
  /-- `JMP addr16` (R236). -/
  | jmp (addr : Addr)
  /-- `JC addr16` (R237). -/
  | jc (addr : Addr)
  /-- `JNC addr16` (R238). -/
  | jnc (addr : Addr)
  /-- `JZ addr16` (R239). -/
  | jz (addr : Addr)
  /-- `JNZ addr16` (R240). -/
  | jnz (addr : Addr)
  /-- `CALL addr16` (R241). -/
  | call (addr : Addr)
  /-- `RET` (R242). -/
  | ret
  /-- `INC r` (R243). -/
  | inc (r : Slot)
  /-- `DEC r` (R244). -/
  | dec (r : Slot)
  /-- `MOV r1, r2` (R245). -/
  | mov (r1 r2 : Slot)
  /-- `LD r, addr16` (R246). -/
  | ld (r : Slot) (addr : Addr)
  /-- `ST r, addr16` (R247). -/
  | st (r : Slot) (addr : Addr)
  /-- `PUSH r` (R248). -/
  | push (r : Slot)
  /-- `POP r` (R249). -/
  | pop (r : Slot)
  /-- `MOVBP addr16` (R250). -/
  | movbp (addr : Addr)
  /-- `MOVSP addr16` (R251). -/
  | movsp (addr : Addr)
  /-- `INCBP` (R252). -/
  | incbp
  /-- `DECBP` (R253). -/
  | decbp
  /-- `LDBP r` (R254). -/
  | ldbp (r : Slot)
  /-- `STBP r` (R255). -/
  | stbp (r : Slot)
  /-- `MOVBPL r` (R256). -/
  | movbpl (r : Slot)
  /-- `MOVBPH r` (R257). -/
  | movbph (r : Slot)
  /-- `MOVSPL r` (R258). -/
  | movspl (r : Slot)
  /-- `MOVSPH r` (R259). -/
  | movsph (r : Slot)
  /-- An unassigned opcode, 0x02 or 0x03 (R260). -/
  | unassigned02 (op : Byte)
  /-- The unassigned opcode 0x77 (R260). -/
  | unassigned77
  /-- An unassigned opcode, 0xAC to 0xAF (R260). -/
  | unassignedAC (op : Byte)
  /-- An unassigned opcode, 0xC0 to 0xFF (R260). -/
  | unassignedC0 (op : Byte)
  deriving DecidableEq, Repr

end Sys2Proof
end

