-- ==== Sys2Proof/WellFormed.lean ====
section
/-! DEFINITION. Which terms of `Instr` stand for an encoding. Every field of a control word and every register and
operand byte of an opcode has a type whose values are exactly those the encoding admits, and no control word is
reserved (R78, R84), so the one thing left to check is the opcode byte of the three unassigned rows that have more
than one opcode (45_reference_rom.md R260). -/

namespace Sys2Proof

/-- The opcode carried by an unassigned row lies in the row's range (R260). -/
def Instr.wellFormed : Instr → Bool
  | .awReg .. | .awD .. | .awAlu .. | .awMem .. | .awOut .. | .awPc .. | .awSp .. | .awBp .. | .awMa ..
  | .awPcInc .. | .awSpInc .. | .awSpDec .. | .awBpInc .. | .awBpDec .. | .awRst .. | .awAdv .. | .arReg ..
  | .arD .. | .arIn .. | .arT .. | .arMem .. | .arPc .. | .arSp .. | .arBp .. | .bbReg .. | .bbD ..
  | .bcPc .. | .bcMa .. | .bcSp .. | .bcBp .. | .arith0 .. | .arith1 .. | .arith2 .. | .arith3 ..
  | .arith4 .. | .arith5 .. | .arith6 .. | .arith7 .. | .arith8 .. | .arith9 .. | .arith10 .. | .arith11 ..
  | .arith12 .. | .arith13 .. | .arith14 .. | .arith15 .. | .logic0 .. | .logic1 .. | .logic2 .. | .logic3 ..
  | .logic4 .. | .logic5 .. | .logic6 .. | .logic7 .. | .logic8 .. | .logic9 .. | .logic10 .. | .logic11 ..
  | .logic12 .. | .logic13 .. | .logic14 .. | .logic15 .. | .fetch | .nop | .hlt | .outR .. | .inR ..
  | .movi .. | .add .. | .sub .. | .and .. | .or .. | .xor .. | .addi .. | .subi .. | .adci .. | .cmpi ..
  | .jmp .. | .jc .. | .jnc .. | .jz .. | .jnz .. | .call .. | .ret | .inc .. | .dec .. | .mov .. | .ld ..
  | .st .. | .push .. | .pop .. | .movbp .. | .movsp .. | .incbp | .decbp | .ldbp .. | .stbp .. | .movbpl ..
  | .movbph .. | .movspl .. | .movsph .. | .unassigned77 => true
  | .unassigned02 op => decide (0x02#8 ≤ op) && decide (op ≤ 0x03#8)
  | .unassignedAC op => decide (0xAC#8 ≤ op) && decide (op ≤ 0xAF#8)
  | .unassignedC0 op => decide (0xC0#8 ≤ op)

end Sys2Proof
end

