-- ==== Sys2Proof/Decode.lean ====
section
/-! DEFINITION. Bits to instructions and back. First the numbers of the selector values (30_encoding.md R72 to R77)
and the codec of the control word (R70, R78); then the decoder of both formats, total on any bytes, and the encoder.

A control word matches several rows of spec/opcode_table.json at once: a sink row, a row for each of `busAR`, `busB`
and `busC`, perhaps an ALU-function row or the fetch row. `ControlWord.readings` lists them all;
`ControlWord.name` is the one the decoder answers (log entry 3). All readings of a word mean the same micro-cycle. -/

namespace Sys2Proof

/-! ### Bytes -/

/-- Bits 7:0 of a 16-bit value. -/
def loByte (v : BitVec 16) : Byte := v.extractLsb' 0 8

/-- Bits 15:8 of a 16-bit value. -/
def hiByte (v : BitVec 16) : Byte := v.extractLsb' 8 8

/-- `{hi, lo}`: the byte at the higher address is the high byte (R82). -/
def joinBytes (hi lo : Byte) : BitVec 16 := hi ++ lo

/-! ### The numbers of the selector values -/

/-- `busAR` values (R72). -/
def BusAR.code : BusAR → BitVec 3
  | .reg => 0 | .d => 1 | .input => 2 | .t => 3 | .mem => 4 | .pc => 5 | .sp => 6 | .bp => 7

/-- The source with a given number (R72). -/
def BusAR.ofCode (v : BitVec 3) : BusAR :=
  match v.toNat with
  | 0 => .reg | 1 => .d | 2 => .input | 3 => .t | 4 => .mem | 5 => .pc | 6 => .sp | _ => .bp

/-- `busAW` values (R74). -/
def BusAW.code : BusAW → BitVec 4
  | .reg => 0 | .d => 1 | .alu => 2 | .mem => 3 | .out => 4 | .pc => 5 | .sp => 6 | .bp => 7 | .ma => 8
  | .pcInc => 9 | .spInc => 10 | .spDec => 11 | .bpInc => 12 | .bpDec => 13 | .rst => 14 | .adv => 15

/-- The sink with a given number (R74). -/
def BusAW.ofCode (v : BitVec 4) : BusAW :=
  match v.toNat with
  | 0 => .reg | 1 => .d | 2 => .alu | 3 => .mem | 4 => .out | 5 => .pc | 6 => .sp | 7 => .bp | 8 => .ma
  | 9 => .pcInc | 10 => .spInc | 11 => .spDec | 12 => .bpInc | 13 => .bpDec | 14 => .rst | _ => .adv

/-- `busB` values (R73). -/
def BusB.code : BusB → BitVec 1
  | .reg => 0 | .d => 1

/-- The secondary source with a given number (R73). -/
def BusB.ofCode (v : BitVec 1) : BusB := if v = 1 then .d else .reg

/-- `busC` values (R75). -/
def BusC.code : BusC → BitVec 2
  | .pc => 0 | .ma => 1 | .sp => 2 | .bp => 3

/-- The address source with a given number (R75). -/
def BusC.ofCode (v : BitVec 2) : BusC :=
  match v.toNat with
  | 0 => .pc | 1 => .ma | 2 => .sp | _ => .bp

/-- `aluMode` values (R77). -/
def AluMode.code : AluMode → BitVec 1
  | .arith => 0 | .logic => 1

/-- The mode with a given number (R77). -/
def AluMode.ofCode (v : BitVec 1) : AluMode := if v = 1 then .logic else .arith

/-- Slot numbers: A, B, X, Y are 0, 1, 2, 3 (10_state.md R20). -/
def Slot.code : Slot → BitVec 2
  | .A => 0 | .B => 1 | .X => 2 | .Y => 3

/-- The register with a given slot number (R20). -/
def Slot.ofCode (v : BitVec 2) : Slot :=
  match v.toNat with
  | 0 => .A | 1 => .B | 2 => .X | _ => .Y

/-! ### The codec of the control word -/

/-- `pack`: the seven fields at the bits R70 gives them, `aluCarryIn` in bit 15 down to `busAR` in bits 2:0. -/
def ControlWord.pack (cw : ControlWord) : CtrlBits :=
  BitVec.ofBool cw.alu.carryIn ++ cw.alu.mode.code ++ cw.alu.select ++ cw.busC.code ++ cw.busB.code
    ++ cw.busAW.code ++ cw.busAR.code

/-- `unpack`: the seven fields of a control word (R70, R78). -/
def ControlWord.unpack (w : CtrlBits) : ControlWord where
  busAR := .ofCode (w.extractLsb' 0 3)
  busAW := .ofCode (w.extractLsb' 3 4)
  busB := .ofCode (w.extractLsb' 7 1)
  busC := .ofCode (w.extractLsb' 8 2)
  alu := { select := w.extractLsb' 10 4, mode := .ofCode (w.extractLsb' 14 1), carryIn := w.getLsbD 15 }

/-- `{ROM1[a], ROM0[a]}`: the control word of its two bytes (R70). -/
def controlBits (rom0 rom1 : Byte) : CtrlBits := rom1 ++ rom0

/-! ### The readings of a control word -/

/-- The sink row that a control word matches (R130 to R146). -/
def ControlWord.sinkReading (cw : ControlWord) : Instr :=
  match cw.busAW with
  | .reg => .awReg cw.busAR cw.busB cw.busC cw.alu
  | .d => .awD cw.busAR cw.busB cw.busC cw.alu
  | .alu => .awAlu cw.busAR cw.busB cw.busC cw.alu
  | .mem => .awMem cw.busAR cw.busB cw.busC cw.alu
  | .out => .awOut cw.busAR cw.busB cw.busC cw.alu
  | .pc => .awPc cw.busAR cw.busB cw.busC cw.alu
  | .sp => .awSp cw.busAR cw.busB cw.busC cw.alu
  | .bp => .awBp cw.busAR cw.busB cw.busC cw.alu
  | .ma => .awMa cw.busAR cw.busB cw.busC cw.alu
  | .pcInc => .awPcInc cw.busAR cw.busB cw.busC cw.alu
  | .spInc => .awSpInc cw.busAR cw.busB cw.busC cw.alu
  | .spDec => .awSpDec cw.busAR cw.busB cw.busC cw.alu
  | .bpInc => .awBpInc cw.busAR cw.busB cw.busC cw.alu
  | .bpDec => .awBpDec cw.busAR cw.busB cw.busC cw.alu
  | .rst => .awRst cw.busAR cw.busB cw.busC cw.alu
  | .adv => .awAdv cw.busAR cw.busB cw.busC cw.alu

/-- The `busAR` row that a control word matches (R114 to R121). -/
def ControlWord.sourceReading (cw : ControlWord) : Instr :=
  match cw.busAR with
  | .reg => .arReg cw.busAW cw.busB cw.busC cw.alu
  | .d => .arD cw.busAW cw.busB cw.busC cw.alu
  | .input => .arIn cw.busAW cw.busB cw.busC cw.alu
  | .t => .arT cw.busAW cw.busB cw.busC cw.alu
  | .mem => .arMem cw.busAW cw.busB cw.busC cw.alu
  | .pc => .arPc cw.busAW cw.busB cw.busC cw.alu
  | .sp => .arSp cw.busAW cw.busB cw.busC cw.alu
  | .bp => .arBp cw.busAW cw.busB cw.busC cw.alu

/-- The `busB` row that a control word matches (R122, R123). -/
def ControlWord.secondaryReading (cw : ControlWord) : Instr :=
  match cw.busB with
  | .reg => .bbReg cw.busAR cw.busAW cw.busC cw.alu
  | .d => .bbD cw.busAR cw.busAW cw.busC cw.alu

/-- The `busC` row that a control word matches (R110 to R113). -/
def ControlWord.addressReading (cw : ControlWord) : Instr :=
  match cw.busC with
  | .pc => .bcPc cw.busAR cw.busAW cw.busB cw.alu
  | .ma => .bcMa cw.busAR cw.busAW cw.busB cw.alu
  | .sp => .bcSp cw.busAR cw.busAW cw.busB cw.alu
  | .bp => .bcBp cw.busAR cw.busAW cw.busB cw.alu

/-- The ALU-function row of a word whose sink is `AW.ALU`: `ARITH n` or `LOGIC n`, `n` = `aluSelect` (R154 to R185). -/
def ControlWord.functionReading (cw : ControlWord) : Instr :=
  let ar := cw.busAR
  let b := cw.busB
  let c := cw.busC
  let cin := cw.alu.carryIn
  match cw.alu.mode, cw.alu.select.toNat with
  | .arith, 0 => .arith0 ar b c cin
  | .arith, 1 => .arith1 ar b c cin
  | .arith, 2 => .arith2 ar b c cin
  | .arith, 3 => .arith3 ar b c cin
  | .arith, 4 => .arith4 ar b c cin
  | .arith, 5 => .arith5 ar b c cin
  | .arith, 6 => .arith6 ar b c cin
  | .arith, 7 => .arith7 ar b c cin
  | .arith, 8 => .arith8 ar b c cin
  | .arith, 9 => .arith9 ar b c cin
  | .arith, 10 => .arith10 ar b c cin
  | .arith, 11 => .arith11 ar b c cin
  | .arith, 12 => .arith12 ar b c cin
  | .arith, 13 => .arith13 ar b c cin
  | .arith, 14 => .arith14 ar b c cin
  | .arith, _ => .arith15 ar b c cin
  | .logic, 0 => .logic0 ar b c cin
  | .logic, 1 => .logic1 ar b c cin
  | .logic, 2 => .logic2 ar b c cin
  | .logic, 3 => .logic3 ar b c cin
  | .logic, 4 => .logic4 ar b c cin
  | .logic, 5 => .logic5 ar b c cin
  | .logic, 6 => .logic6 ar b c cin
  | .logic, 7 => .logic7 ar b c cin
  | .logic, 8 => .logic8 ar b c cin
  | .logic, 9 => .logic9 ar b c cin
  | .logic, 10 => .logic10 ar b c cin
  | .logic, 11 => .logic11 ar b c cin
  | .logic, 12 => .logic12 ar b c cin
  | .logic, 13 => .logic13 ar b c cin
  | .logic, 14 => .logic14 ar b c cin
  | .logic, _ => .logic15 ar b c cin

/-- Whether a word has an ALU-function row (R132). -/
def ControlWord.isFunction (cw : ControlWord) : Bool := cw.busAW == .alu

/-- The fetch, the no-op word 0x007C (R85). -/
def ControlWord.noop : ControlWord :=
  { busAR := .mem, busAW := .adv, busB := .reg, busC := .pc, alu := { select := 0, mode := .arith, carryIn := false } }

/-- Every row of the opcode table that a control word matches, as an instruction. -/
def ControlWord.readings (cw : ControlWord) : List Instr :=
  [cw.sinkReading, cw.sourceReading, cw.secondaryReading, cw.addressReading]
    ++ (if cw.isFunction then [cw.functionReading] else [])
    ++ (if cw = .noop then [.fetch] else [])

/-- The reading the decoder answers (DESIGN CHOICE, safe: log entry 3): the row that fixes most bits, where a
field of value 0 counts as a field not named. -/
def ControlWord.name (cw : ControlWord) : Instr :=
  if cw = .noop then .fetch
  else if cw.isFunction then cw.functionReading
  else if cw.busAW ≠ .reg then cw.sinkReading
  else if cw.busAR ≠ .reg then cw.sourceReading
  else if cw.busC ≠ .pc then cw.addressReading
  else if cw.busB ≠ .reg then cw.secondaryReading
  else cw.sinkReading

/-- The decoder of format `CW`: total, every control word is legal (R78, R85). -/
def decodeControl (w : CtrlBits) : Instr := (ControlWord.unpack w).name

/-! ### Opcodes and operand bytes -/

/-- `slotA` = opcode bits 1:0 (R81). -/
def opcodeSlotA (op : Byte) : Slot := .ofCode (op.extractLsb' 0 2)

/-- `slotB` = opcode bits 3:2 (R81). -/
def opcodeSlotB (op : Byte) : Slot := .ofCode (op.extractLsb' 2 2)

/-- How many operand bytes follow an opcode of XREF-1 (R83, R261). -/
def operandCount (op : Byte) : Nat :=
  let n := op.toNat
  if 0x0C ≤ n ∧ n ≤ 0x0F then 1
  else if 0x30 ≤ n ∧ n ≤ 0x3F then 1
  else if 0x70 ≤ n ∧ n ≤ 0x75 then 2
  else if 0x90 ≤ n ∧ n ≤ 0x97 then 2
  else if 0xA0 ≤ n ∧ n ≤ 0xA1 then 2
  else 0

/-- The opcode map of XREF-1 (R261) in ascending opcode order. `lo` and `hi` are the first and the second operand
byte: `imm8` is `lo`, `addr16` is `{hi, lo}` (R82). Every opcode has a row (R84, R260). -/
def decodeOpcode (op lo hi : Byte) : Instr :=
  let n := op.toNat
  let r := opcodeSlotA op
  let r2 := opcodeSlotB op
  let addr := joinBytes hi lo
  if n = 0x00 then .nop
  else if n = 0x01 then .hlt
  else if n ≤ 0x03 then .unassigned02 op
  else if n ≤ 0x07 then .outR r
  else if n ≤ 0x0B then .inR r
  else if n ≤ 0x0F then .movi r lo
  else if n ≤ 0x1F then .add r r2
  else if n ≤ 0x2F then .sub r r2
  else if n ≤ 0x33 then .addi r lo
  else if n ≤ 0x37 then .subi r lo
  else if n ≤ 0x3B then .adci r lo
  else if n ≤ 0x3F then .cmpi r lo
  else if n ≤ 0x4F then .and r r2
  else if n ≤ 0x5F then .or r r2
  else if n ≤ 0x6F then .xor r r2
  else if n = 0x70 then .jmp addr
  else if n = 0x71 then .jc addr
  else if n = 0x72 then .jnc addr
  else if n = 0x73 then .jz addr
  else if n = 0x74 then .jnz addr
  else if n = 0x75 then .call addr
  else if n = 0x76 then .ret
  else if n = 0x77 then .unassigned77
  else if n ≤ 0x7B then .inc r
  else if n ≤ 0x7F then .dec r
  else if n ≤ 0x8F then .mov r r2
  else if n ≤ 0x93 then .ld r addr
  else if n ≤ 0x97 then .st r addr
  else if n ≤ 0x9B then .push r
  else if n ≤ 0x9F then .pop r
  else if n = 0xA0 then .movbp addr
  else if n = 0xA1 then .movsp addr
  else if n = 0xA2 then .incbp
  else if n = 0xA3 then .decbp
  else if n ≤ 0xA7 then .ldbp r
  else if n ≤ 0xAB then .stbp r
  else if n ≤ 0xAF then .unassignedAC op
  else if n ≤ 0xB3 then .movbpl r
  else if n ≤ 0xB7 then .movbph r
  else if n ≤ 0xBB then .movspl r
  else if n ≤ 0xBF then .movsph r
  else .unassignedC0 op

/-! ### The decoder -/

/-- The two formats of spec/opcode_table.json. A byte does not say which one it is in: control words come from the
control store, opcodes from memory (R2). -/
inductive Format where
  | cw | op8
  deriving DecidableEq, Repr

/-- Why bytes hold no instruction. No word of either format is illegal (R78, R84), so the only reason is that bytes
are missing. -/
inductive DecodeError where
  /-- No byte at all. -/
  | noBytes
  /-- A control word has two bytes, one of each bank; only one is there. -/
  | halfControlWord
  /-- An opcode is there and some of its operand bytes are not. -/
  | operandMissing (op : Byte)
  deriving DecidableEq, Repr

/-- The decoder: the instruction at the head of the bytes and the bytes after it. A control word is its `ROM0` byte
and then its `ROM1` byte (R70); an opcode is followed by its operand bytes (R81, R82). -/
def decode : Format → List Byte → Except DecodeError (Instr × List Byte)
  | _, [] => .error .noBytes
  | .cw, [_] => .error .halfControlWord
  | .cw, b0 :: b1 :: rest => .ok (decodeControl (controlBits b0 b1), rest)
  | .op8, op :: rest =>
    match operandCount op, rest with
    | 0, rest => .ok (decodeOpcode op 0 0, rest)
    | 1, lo :: rest => .ok (decodeOpcode op lo 0, rest)
    | _, lo :: hi :: rest => .ok (decodeOpcode op lo hi, rest)
    | _, _ => .error (.operandMissing op)

/-! ### The encoder -/

/-- The control word an instruction of format `CW` stands for; none for an opcode. -/
def Instr.control : Instr → Option ControlWord
  | .awReg ar b c alu => some ⟨ar, .reg, b, c, alu⟩
  | .awD ar b c alu => some ⟨ar, .d, b, c, alu⟩
  | .awAlu ar b c alu => some ⟨ar, .alu, b, c, alu⟩
  | .awMem ar b c alu => some ⟨ar, .mem, b, c, alu⟩
  | .awOut ar b c alu => some ⟨ar, .out, b, c, alu⟩
  | .awPc ar b c alu => some ⟨ar, .pc, b, c, alu⟩
  | .awSp ar b c alu => some ⟨ar, .sp, b, c, alu⟩
  | .awBp ar b c alu => some ⟨ar, .bp, b, c, alu⟩
  | .awMa ar b c alu => some ⟨ar, .ma, b, c, alu⟩
  | .awPcInc ar b c alu => some ⟨ar, .pcInc, b, c, alu⟩
  | .awSpInc ar b c alu => some ⟨ar, .spInc, b, c, alu⟩
  | .awSpDec ar b c alu => some ⟨ar, .spDec, b, c, alu⟩
  | .awBpInc ar b c alu => some ⟨ar, .bpInc, b, c, alu⟩
  | .awBpDec ar b c alu => some ⟨ar, .bpDec, b, c, alu⟩
  | .awRst ar b c alu => some ⟨ar, .rst, b, c, alu⟩
  | .awAdv ar b c alu => some ⟨ar, .adv, b, c, alu⟩
  | .arReg w b c alu => some ⟨.reg, w, b, c, alu⟩
  | .arD w b c alu => some ⟨.d, w, b, c, alu⟩
  | .arIn w b c alu => some ⟨.input, w, b, c, alu⟩
  | .arT w b c alu => some ⟨.t, w, b, c, alu⟩
  | .arMem w b c alu => some ⟨.mem, w, b, c, alu⟩
  | .arPc w b c alu => some ⟨.pc, w, b, c, alu⟩
  | .arSp w b c alu => some ⟨.sp, w, b, c, alu⟩
  | .arBp w b c alu => some ⟨.bp, w, b, c, alu⟩
  | .bbReg ar w c alu => some ⟨ar, w, .reg, c, alu⟩
  | .bbD ar w c alu => some ⟨ar, w, .d, c, alu⟩
  | .bcPc ar w b alu => some ⟨ar, w, b, .pc, alu⟩
  | .bcMa ar w b alu => some ⟨ar, w, b, .ma, alu⟩
  | .bcSp ar w b alu => some ⟨ar, w, b, .sp, alu⟩
  | .bcBp ar w b alu => some ⟨ar, w, b, .bp, alu⟩
  | .arith0 ar b c cin => some ⟨ar, .alu, b, c, ⟨0, .arith, cin⟩⟩
  | .arith1 ar b c cin => some ⟨ar, .alu, b, c, ⟨1, .arith, cin⟩⟩
  | .arith2 ar b c cin => some ⟨ar, .alu, b, c, ⟨2, .arith, cin⟩⟩
  | .arith3 ar b c cin => some ⟨ar, .alu, b, c, ⟨3, .arith, cin⟩⟩
  | .arith4 ar b c cin => some ⟨ar, .alu, b, c, ⟨4, .arith, cin⟩⟩
  | .arith5 ar b c cin => some ⟨ar, .alu, b, c, ⟨5, .arith, cin⟩⟩
  | .arith6 ar b c cin => some ⟨ar, .alu, b, c, ⟨6, .arith, cin⟩⟩
  | .arith7 ar b c cin => some ⟨ar, .alu, b, c, ⟨7, .arith, cin⟩⟩
  | .arith8 ar b c cin => some ⟨ar, .alu, b, c, ⟨8, .arith, cin⟩⟩
  | .arith9 ar b c cin => some ⟨ar, .alu, b, c, ⟨9, .arith, cin⟩⟩
  | .arith10 ar b c cin => some ⟨ar, .alu, b, c, ⟨10, .arith, cin⟩⟩
  | .arith11 ar b c cin => some ⟨ar, .alu, b, c, ⟨11, .arith, cin⟩⟩
  | .arith12 ar b c cin => some ⟨ar, .alu, b, c, ⟨12, .arith, cin⟩⟩
  | .arith13 ar b c cin => some ⟨ar, .alu, b, c, ⟨13, .arith, cin⟩⟩
  | .arith14 ar b c cin => some ⟨ar, .alu, b, c, ⟨14, .arith, cin⟩⟩
  | .arith15 ar b c cin => some ⟨ar, .alu, b, c, ⟨15, .arith, cin⟩⟩
  | .logic0 ar b c cin => some ⟨ar, .alu, b, c, ⟨0, .logic, cin⟩⟩
  | .logic1 ar b c cin => some ⟨ar, .alu, b, c, ⟨1, .logic, cin⟩⟩
  | .logic2 ar b c cin => some ⟨ar, .alu, b, c, ⟨2, .logic, cin⟩⟩
  | .logic3 ar b c cin => some ⟨ar, .alu, b, c, ⟨3, .logic, cin⟩⟩
  | .logic4 ar b c cin => some ⟨ar, .alu, b, c, ⟨4, .logic, cin⟩⟩
  | .logic5 ar b c cin => some ⟨ar, .alu, b, c, ⟨5, .logic, cin⟩⟩
  | .logic6 ar b c cin => some ⟨ar, .alu, b, c, ⟨6, .logic, cin⟩⟩
  | .logic7 ar b c cin => some ⟨ar, .alu, b, c, ⟨7, .logic, cin⟩⟩
  | .logic8 ar b c cin => some ⟨ar, .alu, b, c, ⟨8, .logic, cin⟩⟩
  | .logic9 ar b c cin => some ⟨ar, .alu, b, c, ⟨9, .logic, cin⟩⟩
  | .logic10 ar b c cin => some ⟨ar, .alu, b, c, ⟨10, .logic, cin⟩⟩
  | .logic11 ar b c cin => some ⟨ar, .alu, b, c, ⟨11, .logic, cin⟩⟩
  | .logic12 ar b c cin => some ⟨ar, .alu, b, c, ⟨12, .logic, cin⟩⟩
  | .logic13 ar b c cin => some ⟨ar, .alu, b, c, ⟨13, .logic, cin⟩⟩
  | .logic14 ar b c cin => some ⟨ar, .alu, b, c, ⟨14, .logic, cin⟩⟩
  | .logic15 ar b c cin => some ⟨ar, .alu, b, c, ⟨15, .logic, cin⟩⟩
  | .fetch => some .noop
  | .nop | .hlt | .outR .. | .inR .. | .movi .. | .add .. | .sub .. | .and .. | .or .. | .xor .. | .addi ..
  | .subi .. | .adci .. | .cmpi .. | .jmp .. | .jc .. | .jnc .. | .jz .. | .jnz .. | .call .. | .ret
  | .inc .. | .dec .. | .mov .. | .ld .. | .st .. | .push .. | .pop .. | .movbp .. | .movsp .. | .incbp
  | .decbp | .ldbp .. | .stbp .. | .movbpl .. | .movbph .. | .movspl .. | .movsph .. | .unassigned02 ..
  | .unassigned77 | .unassignedAC .. | .unassignedC0 .. => none

/-- An opcode byte of a block: the base with the first register in bits 1:0 (R81, R220). -/
def opcode1 (base : Byte) (r : Slot) : Byte := base ||| r.code.setWidth 8

/-- An opcode byte of a block with two register fields, the second in bits 3:2 (R81, R220). -/
def opcode2 (base : Byte) (r1 r2 : Slot) : Byte := base ||| (r2.code ++ r1.code).setWidth 8

/-- The opcode byte of an instruction of format `OP8` (R261); none for a control word. -/
def Instr.opcode : Instr → Option Byte
  | .nop => some 0x00
  | .hlt => some 0x01
  | .outR r => some (opcode1 0x04 r)
  | .inR r => some (opcode1 0x08 r)
  | .movi r _ => some (opcode1 0x0C r)
  | .add r1 r2 => some (opcode2 0x10 r1 r2)
  | .sub r1 r2 => some (opcode2 0x20 r1 r2)
  | .and r1 r2 => some (opcode2 0x40 r1 r2)
  | .or r1 r2 => some (opcode2 0x50 r1 r2)
  | .xor r1 r2 => some (opcode2 0x60 r1 r2)
  | .addi r _ => some (opcode1 0x30 r)
  | .subi r _ => some (opcode1 0x34 r)
  | .adci r _ => some (opcode1 0x38 r)
  | .cmpi r _ => some (opcode1 0x3C r)
  | .jmp _ => some 0x70
  | .jc _ => some 0x71
  | .jnc _ => some 0x72
  | .jz _ => some 0x73
  | .jnz _ => some 0x74
  | .call _ => some 0x75
  | .ret => some 0x76
  | .inc r => some (opcode1 0x78 r)
  | .dec r => some (opcode1 0x7C r)
  | .mov r1 r2 => some (opcode2 0x80 r1 r2)
  | .ld r _ => some (opcode1 0x90 r)
  | .st r _ => some (opcode1 0x94 r)
  | .push r => some (opcode1 0x98 r)
  | .pop r => some (opcode1 0x9C r)
  | .movbp _ => some 0xA0
  | .movsp _ => some 0xA1
  | .incbp => some 0xA2
  | .decbp => some 0xA3
  | .ldbp r => some (opcode1 0xA4 r)
  | .stbp r => some (opcode1 0xA8 r)
  | .movbpl r => some (opcode1 0xB0 r)
  | .movbph r => some (opcode1 0xB4 r)
  | .movspl r => some (opcode1 0xB8 r)
  | .movsph r => some (opcode1 0xBC r)
  | .unassigned02 op => some op
  | .unassigned77 => some 0x77
  | .unassignedAC op => some op
  | .unassignedC0 op => some op
  | .awReg .. | .awD .. | .awAlu .. | .awMem .. | .awOut .. | .awPc .. | .awSp .. | .awBp .. | .awMa ..
  | .awPcInc .. | .awSpInc .. | .awSpDec .. | .awBpInc .. | .awBpDec .. | .awRst .. | .awAdv .. | .arReg ..
  | .arD .. | .arIn .. | .arT .. | .arMem .. | .arPc .. | .arSp .. | .arBp .. | .bbReg .. | .bbD ..
  | .bcPc .. | .bcMa .. | .bcSp .. | .bcBp .. | .arith0 .. | .arith1 .. | .arith2 .. | .arith3 ..
  | .arith4 .. | .arith5 .. | .arith6 .. | .arith7 .. | .arith8 .. | .arith9 .. | .arith10 .. | .arith11 ..
  | .arith12 .. | .arith13 .. | .arith14 .. | .arith15 .. | .logic0 .. | .logic1 .. | .logic2 .. | .logic3 ..
  | .logic4 .. | .logic5 .. | .logic6 .. | .logic7 .. | .logic8 .. | .logic9 .. | .logic10 .. | .logic11 ..
  | .logic12 .. | .logic13 .. | .logic14 .. | .logic15 .. | .fetch => none

/-- The operand bytes of an instruction, in declared order, an address low byte first (R82). -/
def Instr.operands : Instr → List Byte
  | .movi _ imm | .addi _ imm | .subi _ imm | .adci _ imm | .cmpi _ imm => [imm]
  | .jmp addr | .jc addr | .jnc addr | .jz addr | .jnz addr | .call addr | .movbp addr | .movsp addr
  | .ld _ addr | .st _ addr => [loByte addr, hiByte addr]
  | .awReg .. | .awD .. | .awAlu .. | .awMem .. | .awOut .. | .awPc .. | .awSp .. | .awBp .. | .awMa ..
  | .awPcInc .. | .awSpInc .. | .awSpDec .. | .awBpInc .. | .awBpDec .. | .awRst .. | .awAdv .. | .arReg ..
  | .arD .. | .arIn .. | .arT .. | .arMem .. | .arPc .. | .arSp .. | .arBp .. | .bbReg .. | .bbD ..
  | .bcPc .. | .bcMa .. | .bcSp .. | .bcBp .. | .arith0 .. | .arith1 .. | .arith2 .. | .arith3 ..
  | .arith4 .. | .arith5 .. | .arith6 .. | .arith7 .. | .arith8 .. | .arith9 .. | .arith10 .. | .arith11 ..
  | .arith12 .. | .arith13 .. | .arith14 .. | .arith15 .. | .logic0 .. | .logic1 .. | .logic2 .. | .logic3 ..
  | .logic4 .. | .logic5 .. | .logic6 .. | .logic7 .. | .logic8 .. | .logic9 .. | .logic10 .. | .logic11 ..
  | .logic12 .. | .logic13 .. | .logic14 .. | .logic15 .. | .fetch | .nop | .hlt | .outR .. | .inR ..
  | .add .. | .sub .. | .and .. | .or .. | .xor .. | .ret | .inc .. | .dec .. | .mov .. | .push .. | .pop ..
  | .incbp | .decbp | .ldbp .. | .stbp .. | .movbpl .. | .movbph .. | .movspl .. | .movsph ..
  | .unassigned02 .. | .unassigned77 | .unassignedAC .. | .unassignedC0 .. => []

/-- The format of an instruction. -/
def Instr.format (i : Instr) : Format := if i.control.isSome then .cw else .op8

/-- The encoder: the bytes of an instruction as `decode` reads them. -/
def encode (i : Instr) : List Byte :=
  match i.control, i.opcode with
  | some cw, _ => [loByte cw.pack, hiByte cw.pack]
  | none, some op => op :: i.operands
  | none, none => []

/-- The decoder's own name for the encoding of an instruction: the instruction itself for an opcode, and for a
control word the reading `ControlWord.name` chooses (log entry 3). -/
def Instr.canonical (i : Instr) : Instr :=
  match i.control with
  | some cw => cw.name
  | none => i

/-! ### The host's question -/

/-- The instruction the decoder reads from a word of the opcode table: 16 bits are a control word, 8 bits an opcode
whose operand bytes are zero. -/
def decodeTableWord (nbits w : Nat) : Option Instr :=
  let word := BitVec.ofNat 24 w
  let bytes := [word.extractLsb' 0 8, word.extractLsb' 8 8, word.extractLsb' 16 8]
  if nbits = 16 then
    match decode .cw (bytes.take 2) with
    | .ok (i, _) => some i
    | .error _ => none
  else if nbits = 8 then
    match decode .op8 (bytes.take 1 ++ [0, 0]) with
    | .ok (i, _) => some i
    | .error _ => none
  else none

end Sys2Proof
end

