-- ==== Sys2Proof/Config.lean ====
section
/-! DEFINITION. What is fixed for the life of a machine: the open parameters of 00_scope.md R7 (P1 to P6 of
92_eei_decisions.md). The model takes them as arguments: `State` carries a `Config`, no step changes it, and a
statement about every state is a statement about every value of them. Nothing of the spec is left to a free value:
it decides every point its source leaves open (93_implementation_defined.md). -/

namespace Sys2Proof

/-- One entry of the input schedule (60_exceptions.md R307, parameter P6): the values the I/O collaborator gives the
bits of `IN` it owns just before the micro-cycle that starts with `tick`. `IN[4]` is not its own. -/
structure InputEvent where
  tick : Nat
  /-- `IN[3:0]`. -/
  data : BitVec 4
  /-- `IN[6:5]`, the two device-data-ready flags. -/
  ready : BitVec 2
  /-- `IN[7]`, the operation-complete toggle. -/
  done : BitVec 1
  deriving DecidableEq, Repr

/-- What the entries of the control store hold that are not listed in it: the no-op word everywhere (R208), or the
reference control store XREF-1 (R262), the default of the parameters `ROM0`, `ROM1` (R7). -/
inductive Fill where
  | noop | xref1
  deriving DecidableEq, Repr

/-- The parameters of a machine (R7). The byte arrays are in the sparse form of Sys2Proof/Machine/Memory.lean. -/
structure Config where
  /-- What an entry of the control store that neither bank lists holds. -/
  fill : Fill
  /-- The entries of bank 0 of the control store that differ from the fill (R200). -/
  rom0 : List Host.Cell
  /-- The entries of bank 1 of the control store that differ from the fill (R200). -/
  rom1 : List Host.Cell
  /-- `BOOT_SIZE`, 0 to 65536. -/
  bootSize : Nat
  /-- `BOOT`: a byte not listed is 0x00, the padding of a short image (R326). -/
  boot : List Host.Cell
  /-- `SP_BASE_HI`. -/
  spBaseHi : Byte
  /-- `CLK_TOGGLE_PERIOD`, at least 1. -/
  clkTogglePeriod : Nat
  /-- The input schedule; a tick with no entry is "no change". -/
  inputs : List InputEvent
  deriving DecidableEq, Repr

end Sys2Proof
end

