-- ==== Sys2Proof/Machine/Memory.lean ====
section
/-! DEFINITION. Byte arrays as plain data: the sparse form in which `RAM`, the bootstrap image and the two banks of
the control store are held (10_state.md R36, 44_control_store.md R200). An array is a list of (address, byte) pairs
in one canonical form: addresses strictly rising, below the size of the array, and no entry equal to what an unlisted
address reads as. -/

namespace Sys2Proof.Machine

/-- The byte of an array at an address; `blank` is what an unlisted address reads as. -/
def Memory.read (blank : Nat → Byte) : List Host.Cell → Nat → Byte
  | [], a => blank a
  | (k, v) :: rest, a => if a = k then v else Memory.read blank rest a

/-- Put an entry in its place, replacing the one of the same address. -/
def Memory.insert : List Host.Cell → Nat → Byte → List Host.Cell
  | [], a, v => [(a, v)]
  | (k, w) :: rest, a, v =>
    if a < k then (a, v) :: (k, w) :: rest
    else if a = k then (a, v) :: rest
    else (k, w) :: Memory.insert rest a v

/-- Write a byte; writing what an unlisted address reads as removes the entry. -/
def Memory.write (blank : Nat → Byte) (m : List Host.Cell) (a : Nat) (v : Byte) : List Host.Cell :=
  if v = blank a then m.filter (fun c => decide (c.1 ≠ a)) else Memory.insert m a v

/-- Every address of the list is at least `lo`, and the list rises strictly. -/
def Memory.rising : Nat → List Host.Cell → Bool
  | _, [] => true
  | lo, (k, _) :: rest => decide (lo ≤ k) && Memory.rising (k + 1) rest

/-- The canonical form of an array of `size` bytes. -/
def Memory.wf (blank : Nat → Byte) (size : Nat) (m : List Host.Cell) : Bool :=
  Memory.rising 0 m && m.all (fun c => decide (c.1 < size) && decide (c.2 ≠ blank c.1))

/-- What an unlisted cell of `RAM` reads as: 0x00, the value every cell has after reset (R320). -/
def ramBlank : Nat → Byte := fun _ => 0x00

/-- What an unlisted byte of the bootstrap image reads as: 0x00, the padding of a short image (R326). -/
def bootBlank : Nat → Byte := fun _ => 0x00

end Sys2Proof.Machine
end

