-- ==== Sys2Proof/Machine/Generator.lean ====
section
/-! DEFINITION. The control-store generator, as the contract on the control store's contents that 44_control_store.md
keeps of it: instruction descriptors (R202) and the bytes of an instruction of a descriptor (R81, R82), block width (R203),
expansion with flag gating (R204, R206), the collision error (R207) and the fill (R208). It runs before the machine does;
the sequencer never sees it. -/

namespace Sys2Proof.Machine

/-- The argument kinds of a descriptor (R82). -/
inductive ArgKind where
  | none | ab | xy | abxy | imm | addr
  deriving DecidableEq, Repr

/-- The requirement a descriptor puts on a flag (R202). -/
inductive FlagReq where
  | any | enable | disable
  deriving DecidableEq, Repr

/-- The argument-kind tags of a descriptor, up to three; an argument that is not declared is `NONE` (R82, R202). -/
structure ArgKinds where
  first : ArgKind := .none
  second : ArgKind := .none
  third : ArgKind := .none
  deriving DecidableEq, Repr

/-- An instruction descriptor (R202): the base opcode, one byte, the argument kinds, one requirement for each flag, the
steps. -/
structure Descriptor where
  opcode : Byte
  args : ArgKinds
  carry : FlagReq
  zero : FlagReq
  steps : List CtrlBits
  deriving DecidableEq, Repr

/-- The build-time errors. No control store results from any of them (R207, R315, U16). -/
inductive GeneratorError where
  /-- `DuplicateOpcodeError(opcode, step)`: an entry was already written by an earlier descriptor (R207). -/
  | duplicateOpcode (opcode step : Nat)
  /-- A narrow first register argument followed by a second register argument: the block and the slot fields of the
  hardware cannot agree, and the generator rejects the descriptor (R203, U16). -/
  | narrowThenRegister (opcode : Byte)
  /-- The block of the descriptor has a last opcode above 0xFF: no entry belongs to such an opcode (R201; log entry
  17). -/
  | blockPastLastOpcode (opcode : Byte)
  deriving DecidableEq, Repr

/-- The generator's state: the opcodes some block contains, and the entries written, by rising index. -/
structure Generator where
  assigned : List Nat
  written : List (Nat × CtrlBits)
  deriving DecidableEq, Repr

/-- How many opcode bits an argument takes (R203). -/
def ArgKind.bits : ArgKind → Nat
  | .ab | .xy => 1
  | .abxy => 2
  | .none | .imm | .addr => 0

/-- The number of operand bytes of an argument (R82). -/
def ArgKind.bytes : ArgKind → Nat
  | .imm => 1
  | .addr => 2
  | .none | .ab | .xy | .abxy => 0

/-- The kinds in declared order. -/
def ArgKinds.toList (ks : ArgKinds) : List ArgKind := [ks.first, ks.second, ks.third]

/-- The kinds that an instruction encodes, in declared order: a register in third place is not encoded (R203 and vector
V-GEN-1 of 95_test_vectors.md). -/
def ArgKinds.encoded (ks : ArgKinds) : List ArgKind :=
  [ks.first, ks.second, if ks.third.bits = 0 then ks.third else .none]

/-- The number of opcodes a block with these arguments occupies: 2 to the number of bits of its first two arguments
(R203). -/
def ArgKinds.width (ks : ArgKinds) : Nat := 2 ^ (ks.first.bits + ks.second.bits)

/-- The length of an instruction: 1 and the bytes of its arguments (R83). -/
def Descriptor.length (d : Descriptor) : Nat := 1 + (d.args.toList.map ArgKind.bytes).sum

/-- The number of opcodes a descriptor occupies (R203). -/
def Descriptor.width (d : Descriptor) : Nat := d.args.width

/-- The opcodes of the block (R203). -/
def Descriptor.opcodes (d : Descriptor) : List Nat := (List.range d.width).map (d.opcode.toNat + ·)

/-! ### The bytes of an instruction of a descriptor -/

/-- The value an instruction gives one argument of its descriptor. -/
inductive ArgValue where
  | reg (k : Slot)
  | imm (v : Byte)
  | addr (a : Addr)
  deriving DecidableEq, Repr

/-- Whether an argument kind has a value: `AB` is A or B, `XY` is X or Y, `ABXY` any of the four (R81, R82). -/
def ArgKind.takes : ArgKind → ArgValue → Bool
  | .ab, .reg k => k = .A || k = .B
  | .xy, .reg k => k = .X || k = .Y
  | .abxy, .reg _ => true
  | .imm, .imm _ => true
  | .addr, .addr _ => true
  | _, _ => false

/-- The operand bytes of a value: an immediate as it stands, an address low byte first, none for a register (R82). -/
def ArgValue.bytes : ArgValue → List Byte
  | .reg _ => []
  | .imm v => [v]
  | .addr a => [loByte a, hiByte a]

/-- The operand bytes of the values of the declared kinds, in declared order (R82); none where a value is missing, left
over or not one of its kind. -/
def operandBytes : List ArgKind → List ArgValue → Option (List Byte)
  | [], [] => some []
  | .none :: ks, vs => operandBytes ks vs
  | k :: ks, v :: vs => if k.takes v then (operandBytes ks vs).map (v.bytes ++ ·) else none
  | _, _ => none

/-- The opcode bits of the register arguments: the first at bits 1:0, the second at bits 3:2, a narrow kind with the low
bit of the slot number only (R81; log entry 18). -/
def registerBits : List ArgKind → List ArgValue → (field : Nat) → Byte
  | .none :: ks, vs, field => registerBits ks vs field
  | k :: ks, .reg r :: vs, field =>
    ((if k.bits = 1 then r.code.setWidth 8 &&& 1 else r.code.setWidth 8) <<< field) ||| registerBits ks vs (field + 2)
  | _ :: ks, _ :: vs, field => registerBits ks vs field
  | _, _, _ => 0

/-- The values of the declared kinds, in declared order, from the registers that the slot fields of the opcode name and
the operand bytes, and the bytes that are left (R81, R82); none where a byte is missing, or where a narrow kind stands over
a slot field of the other pair. -/
def readOperands : List ArgKind → List Slot → List Byte → Option (List ArgValue × List Byte)
  | [], _, bytes => some ([], bytes)
  | .none :: ks, slots, bytes => readOperands ks slots bytes
  | .imm :: ks, slots, v :: bytes => (readOperands ks slots bytes).map fun r => (.imm v :: r.1, r.2)
  | .addr :: ks, slots, lo :: hi :: bytes =>
    (readOperands ks slots bytes).map fun r => (.addr (joinBytes hi lo) :: r.1, r.2)
  | k :: ks, slot :: slots, bytes =>
    if k.takes (.reg slot) then (readOperands ks slots bytes).map fun r => (.reg slot :: r.1, r.2) else none
  | _, _, _ => none

/-- The registers that the slot fields of an opcode name, `slotA` first (R81). -/
def slotFields (op : Byte) : List Slot := [opcodeSlotA op, opcodeSlotB op]

/-- The opcode of the block that stands for the values (R81, R220). -/
def Descriptor.opcodeOf (d : Descriptor) (vs : List ArgValue) : Byte := d.opcode ||| registerBits d.args.encoded vs 0

/-- The bytes of an instruction of a descriptor: the opcode, then the operand bytes (R81, R82); none where the values do
not fit the kinds, or where the slot fields of the block cannot name the registers (R203). -/
def Descriptor.encode (d : Descriptor) (vs : List ArgValue) : Option (List Byte) :=
  match operandBytes d.args.encoded vs with
  | some bytes =>
    if (d.opcodeOf vs).toNat ∈ d.opcodes ∧ readOperands d.args.encoded (slotFields (d.opcodeOf vs)) bytes = some (vs, []) then
      some (d.opcodeOf vs :: bytes)
    else none
  | none => none

/-- The argument values of the instruction of a descriptor at the head of the bytes, and the bytes after it (R81 to
R83). -/
def Descriptor.decode (d : Descriptor) : List Byte → Option (List ArgValue × List Byte)
  | [] => none
  | op :: bytes => if op.toNat ∈ d.opcodes then readOperands d.args.encoded (slotFields op) bytes else none

/-! ### Expansion -/

/-- Whether a flag value meets a requirement (R204). -/
def FlagReq.admits : FlagReq → Bool → Bool
  | .any, _ => true
  | .enable, f => f
  | .disable, f => !f

/-- The (carry, zero) copies of an entry in index order. -/
def flagCopies : List (Bool × Bool) := [(false, false), (false, true), (true, false), (true, true)]

/-- The (carry, zero) copies a descriptor claims (R206). -/
def Descriptor.copies (d : Descriptor) : List (Bool × Bool) :=
  flagCopies.filter (fun f => d.carry.admits f.1 && d.zero.admits f.2)

/-- `STEP_LIMIT` (R6). -/
def stepLimit : Nat := 16

/-- The index of an entry: `opcode * 4 * STEP_LIMIT + step * 4 + carry * 2 + zero` (R80, R201). -/
def entryIndex (op step : Nat) (f : Bool × Bool) : Nat := op * 4 * stepLimit + step * 4 + f.1.toNat * 2 + f.2.toNat

/-- The entries a descriptor writes, by rising index; steps beyond the sixteenth are dropped (R204). -/
def Descriptor.targets (d : Descriptor) : List (Nat × CtrlBits) :=
  d.opcodes.flatMap fun op =>
    ((d.steps.take stepLimit).zipIdx).flatMap fun sw => d.copies.map fun f => (entryIndex op sw.2 f, sw.1)

/-- Merge the entries of one descriptor into those written before, failing at the first index that both have (R204,
R207). Both lists rise, so the merge meets that index first; `fuel` bounds the number of entries. -/
def mergeEntries : Nat → List (Nat × CtrlBits) → List (Nat × CtrlBits) → Except GeneratorError (List (Nat × CtrlBits))
  | 0, _, _ => .ok []
  | _ + 1, old, [] => .ok old
  | _ + 1, [], new => .ok new
  | fuel + 1, (i, v) :: old, (j, w) :: new =>
    if i = j then .error (.duplicateOpcode (j / (4 * stepLimit)) (j / 4 % stepLimit))
    else if i < j then
      match mergeEntries fuel old ((j, w) :: new) with
      | .ok rest => .ok ((i, v) :: rest)
      | .error e => .error e
    else
      match mergeEntries fuel ((i, v) :: old) new with
      | .ok rest => .ok ((j, w) :: rest)
      | .error e => .error e

/-- Whether the block of a descriptor would not match the hardware's slot fields whatever its base (R203, U16; log entry
11). -/
def Descriptor.narrowThenRegister (d : Descriptor) : Bool :=
  decide (d.args.first.bits = 1) && decide (d.args.second.bits ≠ 0)

/-- Whether the block of a descriptor leaves the 256 opcodes (R201; log entry 17). -/
def Descriptor.pastLastOpcode (d : Descriptor) : Bool := decide (256 < d.opcode.toNat + d.width)

/-- `addInstruction` (R204). -/
def Generator.addInstruction (g : Generator) (d : Descriptor) : Except GeneratorError Generator :=
  if d.narrowThenRegister then .error (.narrowThenRegister d.opcode)
  else if d.pastLastOpcode then .error (.blockPastLastOpcode d.opcode)
  else
    match mergeEntries (g.written.length + d.targets.length + 1) g.written d.targets with
    | .ok written => .ok { assigned := g.assigned ++ d.opcodes, written := written }
    | .error e => .error e

/-- A generator with nothing added. -/
def Generator.empty : Generator := { assigned := [], written := [] }

/-- Add descriptors in order; the first error ends the generation (R207). -/
def Generator.addAll : Generator → List Descriptor → Except GeneratorError Generator
  | g, [] => .ok g
  | g, d :: ds =>
    match g.addInstruction d with
    | .ok g' => Generator.addAll g' ds
    | .error e => .error e

/-- `isOpcodeAssigned` (R205). -/
def Generator.isOpcodeAssigned (g : Generator) (op : Nat) : Bool := g.assigned.contains op

/-- One bank of a list of entries, in canonical form over a bank of no-op bytes. -/
def bankOf (noop : Byte) (byte : CtrlBits → Byte) (entries : List (Nat × CtrlBits)) : List Host.Cell :=
  entries.filterMap fun e => if byte e.2 = noop then none else some (e.1, byte e.2)

/-- `finalize`: the two banks. Every entry no descriptor wrote holds the no-op word 0x007C (R208), which is what an
entry that is not listed stands for. -/
def Generator.finalize (g : Generator) : List Host.Cell × List Host.Cell :=
  (bankOf 0x7C loByte g.written, bankOf 0x00 hiByte g.written)

/-- The control store of a list of descriptors, or the error that ends its generation. -/
def generate (ds : List Descriptor) : Except GeneratorError (List Host.Cell × List Host.Cell) :=
  match Generator.empty.addAll ds with
  | .ok g => .ok g.finalize
  | .error e => .error e

end Sys2Proof.Machine
end

