-- ==== Sys2Proof/Machine/Xref.lean ====
section
/-! DEFINITION. The reference control store XREF-1 (45_reference_rom.md R222 to R262), the default of the parameters
`ROM0`, `ROM1` (R7): the 43 descriptors of its 38 opcode blocks with the control words of their microprograms as the spec's tables give them,
its words entry by entry, and its image; then what the entries of a control store that are not listed hold. -/

namespace Sys2Proof.Machine

/-- An opcode block of XREF-1: base opcode, argument kinds, and for each descriptor of the block its carry and zero
requirement and its steps. -/
structure XrefBlock where
  opcode : Byte
  args : ArgKinds
  variants : List (FlagReq × FlagReq × List CtrlBits)
  deriving DecidableEq, Repr

/-- The opcode blocks of XREF-1 by rising base opcode (R222 to R259, map in R261). -/
def xrefBlocks : List XrefBlock := [
  -- NOP (R222)
  ⟨0x00, {}, [(.any, .any, [0x007C])]⟩,
  -- HLT (R223)
  ⟨0x01, {}, [(.any, .any, [0x0070])]⟩,
  -- OUT (R224)
  ⟨0x04, { first := .abxy }, [(.any, .any, [0x0020, 0x007C])]⟩,
  -- IN (R225)
  ⟨0x08, { first := .abxy }, [(.any, .any, [0x0002, 0x007C])]⟩,
  -- MOVI (R226)
  ⟨0x0C, { first := .abxy, second := .imm }, [(.any, .any, [0x0004, 0x0048, 0x007C])]⟩,
  -- ADD (R227)
  ⟨0x10, { first := .abxy, second := .abxy }, [(.any, .any, [0x2410, 0x0003, 0x007C])]⟩,
  -- SUB (R228)
  ⟨0x20, { first := .abxy, second := .abxy }, [(.any, .any, [0x9810, 0x0003, 0x007C])]⟩,
  -- ADDI (R232)
  ⟨0x30, { first := .abxy, second := .imm }, [(.any, .any, [0x000C, 0x0048, 0x2490, 0x0003, 0x007C])]⟩,
  -- SUBI (R233)
  ⟨0x34, { first := .abxy, second := .imm }, [(.any, .any, [0x000C, 0x0048, 0x9890, 0x0003, 0x007C])]⟩,
  -- ADCI (R234)
  ⟨0x38, { first := .abxy, second := .imm }, [(.disable, .any, [0x000C, 0x0048, 0x2490, 0x0003, 0x007C]),
    (.enable, .any, [0x000C, 0x0048, 0xA490, 0x0003, 0x007C])]⟩,
  -- CMPI (R235)
  ⟨0x3C, { first := .abxy, second := .imm }, [(.any, .any, [0x000C, 0x0048, 0x9890, 0x007C])]⟩,
  -- AND (R229)
  ⟨0x40, { first := .abxy, second := .abxy }, [(.any, .any, [0x6C10, 0x0003, 0x007C])]⟩,
  -- OR (R230)
  ⟨0x50, { first := .abxy, second := .abxy }, [(.any, .any, [0x7810, 0x0003, 0x007C])]⟩,
  -- XOR (R231)
  ⟨0x60, { first := .abxy, second := .abxy }, [(.any, .any, [0x5810, 0x0003, 0x007C])]⟩,
  -- JMP (R236)
  ⟨0x70, { first := .addr }, [(.any, .any, [0x000C, 0x0048, 0x00AC, 0x0029, 0x007C])]⟩,
  -- JC (R237)
  ⟨0x71, { first := .addr }, [(.enable, .any, [0x000C, 0x0048, 0x00AC, 0x0029, 0x007C]),
    (.disable, .any, [0x0048, 0x0048, 0x007C])]⟩,
  -- JNC (R238)
  ⟨0x72, { first := .addr }, [(.disable, .any, [0x000C, 0x0048, 0x00AC, 0x0029, 0x007C]),
    (.enable, .any, [0x0048, 0x0048, 0x007C])]⟩,
  -- JZ (R239)
  ⟨0x73, { first := .addr }, [(.any, .enable, [0x000C, 0x0048, 0x00AC, 0x0029, 0x007C]),
    (.any, .disable, [0x0048, 0x0048, 0x007C])]⟩,
  -- JNZ (R240)
  ⟨0x74, { first := .addr }, [(.any, .disable, [0x000C, 0x0048, 0x00AC, 0x0029, 0x007C]),
    (.any, .enable, [0x0048, 0x0048, 0x007C])]⟩,
  -- CALL (R241)
  ⟨0x75, { first := .addr }, [(.any, .any, [0x000C, 0x0048, 0x0058, 0x029D, 0x0058, 0x021D, 0x00AC, 0x0029, 0x007C])]⟩,
  -- RET (R242)
  ⟨0x76, {}, [(.any, .any, [0x020C, 0x0050, 0x02AC, 0x0050, 0x0029, 0x0048, 0x007C])]⟩,
  -- INC (R243)
  ⟨0x78, { first := .abxy }, [(.any, .any, [0x8010, 0x0003, 0x007C])]⟩,
  -- DEC (R244)
  ⟨0x7C, { first := .abxy }, [(.any, .any, [0x3C10, 0x0003, 0x007C])]⟩,
  -- MOV (R245)
  ⟨0x80, { first := .abxy, second := .abxy }, [(.any, .any, [0x6810, 0x0003, 0x007C])]⟩,
  -- LD (R246)
  ⟨0x90, { first := .abxy, second := .addr }, [(.any, .any, [0x0044, 0x0048, 0x00C4, 0x0048, 0x0104, 0x007C])]⟩,
  -- ST (R247)
  ⟨0x94, { first := .abxy, second := .addr }, [(.any, .any, [0x0044, 0x0048, 0x00C4, 0x0048, 0x0118, 0x007C])]⟩,
  -- PUSH (R248)
  ⟨0x98, { first := .abxy }, [(.any, .any, [0x0058, 0x0218, 0x007C])]⟩,
  -- POP (R249)
  ⟨0x9C, { first := .abxy }, [(.any, .any, [0x0204, 0x0050, 0x007C])]⟩,
  -- MOVBP (R250)
  ⟨0xA0, { first := .addr }, [(.any, .any, [0x003C, 0x0048, 0x00BC, 0x0048, 0x007C])]⟩,
  -- MOVSP (R251)
  ⟨0xA1, { first := .addr }, [(.any, .any, [0x0034, 0x0048, 0x00B4, 0x0048, 0x007C])]⟩,
  -- INCBP (R252)
  ⟨0xA2, {}, [(.any, .any, [0x0060, 0x007C])]⟩,
  -- DECBP (R253)
  ⟨0xA3, {}, [(.any, .any, [0x0068, 0x007C])]⟩,
  -- LDBP (R254)
  ⟨0xA4, { first := .abxy }, [(.any, .any, [0x0304, 0x007C])]⟩,
  -- STBP (R255)
  ⟨0xA8, { first := .abxy }, [(.any, .any, [0x0318, 0x007C])]⟩,
  -- MOVBPL (R256)
  ⟨0xB0, { first := .abxy }, [(.any, .any, [0x0007, 0x007C])]⟩,
  -- MOVBPH (R257)
  ⟨0xB4, { first := .abxy }, [(.any, .any, [0x0087, 0x007C])]⟩,
  -- MOVSPL (R258)
  ⟨0xB8, { first := .abxy }, [(.any, .any, [0x0006, 0x007C])]⟩,
  -- MOVSPH (R259)
  ⟨0xBC, { first := .abxy }, [(.any, .any, [0x0086, 0x007C])]⟩]

/-- The descriptors of a block (R202). -/
def XrefBlock.descriptors (k : XrefBlock) : List Descriptor :=
  k.variants.map fun v => ⟨k.opcode, k.args, v.1, v.2.1, v.2.2⟩

/-- The 43 descriptors of XREF-1 (R262). -/
def xrefDescriptors : List Descriptor := xrefBlocks.flatMap XrefBlock.descriptors

/-- The number of opcodes of a block (R203). -/
def XrefBlock.width (k : XrefBlock) : Nat := k.args.width

/-- The word of a step of a block in one flag copy, where some descriptor of the block gives one (R204, R206). -/
def XrefBlock.step (k : XrefBlock) (step : Nat) (f : Bool × Bool) : Option CtrlBits :=
  k.variants.findSome? fun v => if v.1.admits f.1 && v.2.1.admits f.2 then v.2.2[step]? else none

/-- The number of steps of the longest descriptor of a block. -/
def XrefBlock.steps (k : XrefBlock) : Nat := (k.variants.map fun v => v.2.2.length).foldl max 0

/-- The entries of one opcode of a block, by rising index. -/
def XrefBlock.entriesOf (k : XrefBlock) (op : Nat) : List (Nat × CtrlBits) :=
  (List.range k.steps).flatMap fun step =>
    flagCopies.filterMap fun f => (k.step step f).map fun w => (entryIndex op step f, w)

/-- The entries of a block, by rising index. -/
def XrefBlock.entries (k : XrefBlock) : List (Nat × CtrlBits) :=
  (List.range k.width).flatMap fun r => k.entriesOf (k.opcode.toNat + r)

/-- The entries of XREF-1, by rising index. -/
def xrefEntries : List (Nat × CtrlBits) := xrefBlocks.flatMap XrefBlock.entries

/-- The word of an entry of XREF-1: a step of its microprogram, or the no-op word of the fill (R208, R260). -/
def xrefWord (op step : Nat) (f : Bool × Bool) : CtrlBits :=
  match xrefBlocks.find? fun k => decide (k.opcode.toNat ≤ op) && decide (op < k.opcode.toNat + k.width) with
  | some k => (k.step step f).getD 0x007C
  | none => 0x007C

/-- `ROM0` and `ROM1` of XREF-1 over banks of no-op bytes (R262). -/
def xrefImage : List Host.Cell × List Host.Cell := (bankOf 0x7C loByte xrefEntries, bankOf 0x00 hiByte xrefEntries)

/-- The word of XREF-1 at an index: opcode in bits 13:6, step in bits 5:2, carry in bit 1, zero in bit 0; the upper
half of the banks is filled (R80, R201, R208). -/
def xrefWordAt (a : Nat) : CtrlBits :=
  if a < 16384 then xrefWord (a / 64) (a / 4 % 16) (decide (a / 2 % 2 = 1), decide (a % 2 = 1)) else 0x007C

/-- The word that a fill gives an entry. -/
def fillWord : Fill → Nat → CtrlBits
  | .noop, _ => 0x007C
  | .xref1, a => xrefWordAt a

/-- What an unlisted entry of bank 0 reads as. -/
def rom0Blank (f : Fill) (a : Nat) : Byte := loByte (fillWord f a)

/-- What an unlisted entry of bank 1 reads as. -/
def rom1Blank (f : Fill) (a : Nat) : Byte := hiByte (fillWord f a)

/-- The defaults of R7: XREF-1, `BOOT_SIZE` = 0x2000, an image of zeros, `SP_BASE_HI` = 0xFF,
`CLK_TOGGLE_PERIOD` = 1000, no change of `IN` by the collaborator. -/
def defaultConfig : Config where
  fill := .xref1
  rom0 := []
  rom1 := []
  bootSize := 0x2000
  boot := []
  spBaseHi := 0xFF
  clkTogglePeriod := 1000
  inputs := []

/-- The constraints R7 puts on the parameters, with the canonical form of the arrays: `BOOT_SIZE` 0 to 65536,
`CLK_TOGGLE_PERIOD` at least 1, an image inside the bootstrap region, two banks of 32,768 entries. -/
def configWf (g : Config) : Bool :=
  decide (g.bootSize ≤ 65536) && decide (1 ≤ g.clkTogglePeriod) && Memory.wf bootBlank g.bootSize g.boot
    && Memory.wf (rom0Blank g.fill) 32768 g.rom0 && Memory.wf (rom1Blank g.fill) 32768 g.rom1

end Sys2Proof.Machine
end

