-- ==== Sys2Proof/Machine/State.lean ====
section
/-! DEFINITION. The state of the machine as plain data (10_state.md R20 to R37), the reasons a step could stop, and
the state after reset (R40, R320). -/

namespace Sys2Proof.Machine

/-- Why a step ends in a fault: no reason exists. "The hardware raises no synchronous exception of any kind" (R300); the
set of causes is empty, and so is this type. -/
inductive Fault where
  deriving DecidableEq, Repr

/-- Why an instruction has no meaning. -/
inductive Refusal where
  /-- Raised by `exec` for an instruction of the opcode table whose meaning is not written; safe, since nothing is
  claimed of it. No arm raises it: every row has its meaning. -/
  | notModelled (mnemonic : String)
  deriving DecidableEq, Repr

/-- What one step of the model is (log entry 2): the host grants ticks or asks for one visible instruction (R104,
D24 of 92_eei_decisions.md). It is the model's own field, not a register. -/
inductive StepMode where
  /-- One micro-cycle, the hardware's own transition (R90, R101). -/
  | tick
  /-- Micro-cycles until `cycle` = 0 again (D24). -/
  | instruction
  deriving DecidableEq, Repr

/-- The state. -/
structure State where
  /-- Slot 0 of the register file (R20). -/
  regA : Byte
  /-- Slot 1 of the register file (R20). -/
  regB : Byte
  /-- Slot 2 of the register file (R20). -/
  regX : Byte
  /-- Slot 3 of the register file (R20). -/
  regY : Byte
  /-- `D`, the hidden-data register (R23). -/
  regD : Byte
  /-- `T`, the ALU result latch (R24). -/
  regT : Byte
  /-- `I`, the instruction register (R25). -/
  regI : Byte
  /-- `IN`, the input register (R26). -/
  regIN : Byte
  /-- `OUT`, the output register (R27). -/
  regOUT : Byte
  /-- `PC` (R28). -/
  pc : Addr
  /-- `SP` (R29). -/
  sp : Addr
  /-- `BP` (R30). -/
  bp : Addr
  /-- `MA` (R30). -/
  ma : Addr
  /-- `C[0]`, the carry latch of flag bank 0 (R31). -/
  c0 : Bool
  /-- `Z[0]`, the zero latch of flag bank 0 (R31). -/
  z0 : Bool
  /-- `C[1]`, the carry latch of flag bank 1 (R31). -/
  c1 : Bool
  /-- `Z[1]`, the zero latch of flag bank 1 (R31). -/
  z1 : Bool
  /-- The micro-cycle counter (R34). -/
  cycle : BitVec 4
  /-- The tick counter, unbounded (R35). -/
  tick : Nat
  /-- `RAM` in the canonical form of Sys2Proof/Machine/Memory.lean over zeros (R36). -/
  ram : List Host.Cell
  /-- The output trace: one (micro-cycle number, byte) for each output event, oldest first (R306). -/
  trace : List (Nat × Byte)
  /-- The parameters: fixed for the life of the machine, carried here so that a step can read them (R7, R36). -/
  cfg : Config
  /-- What one step is (log entry 2). -/
  mode : StepMode
  deriving DecidableEq, Repr

/-- The canonical form of `RAM`: 65,536 cells, of which those of the bootstrap region are never listed (R36, R54). -/
abbrev State.memoryWf (s : State) : Prop :=
  Memory.wf ramBlank 65536 s.ram = true ∧ s.ram.all (fun c => decide (s.cfg.bootSize ≤ c.1)) = true

/-- The state after reset of a machine with given parameters (R40, R320): `SP` at its base, everything else 0, memory
zeroed, no output event. -/
def State.resetWith (cfg : Config) : State where
  regA := 0
  regB := 0
  regX := 0
  regY := 0
  regD := 0
  regT := 0
  regI := 0
  regIN := 0
  regOUT := 0
  pc := 0
  sp := cfg.spBaseHi ++ (0 : Byte)
  bp := 0
  ma := 0
  c0 := false
  z0 := false
  c1 := false
  z1 := false
  cycle := 0
  tick := 0
  ram := []
  trace := []
  cfg := cfg
  mode := .tick

/-- The machine right after reset, with the default parameters of R7. -/
def State.reset : State := State.resetWith defaultConfig

end Sys2Proof.Machine
end

