-- ==== Sys2Proof/Machine/Ops.lean ====
section
/-! DEFINITION. The named operations over registers, memory, the control store and the sequencing state.

Taking an exception, and returning from one: the hardware has neither. It raises nothing, saves no state and has no
vector (60_exceptions.md R300 to R305), so there is no such operation here. What other machines treat as a fault is
ordinary behaviour of the operations below (R301). -/

namespace Sys2Proof.Machine

/-! ### General registers and pairs -/

/-- `R[k]` (R9, R20). -/
def State.slot (s : State) : Slot → Byte
  | .A => s.regA
  | .B => s.regB
  | .X => s.regX
  | .Y => s.regY

/-- `R[k] <- v` (R9, R20). -/
def State.setSlot (s : State) (k : Slot) (v : Byte) : State :=
  match k with
  | .A => { s with regA := v }
  | .B => { s with regB := v }
  | .X => { s with regX := v }
  | .Y => { s with regY := v }

/-- `slotA` = `I[1:0]`, the slot of the primary bus (R21). -/
def State.slotA (s : State) : Slot := opcodeSlotA s.regI

/-- `slotB` = `I[3:2]`, the slot of the secondary bus (R21). -/
def State.slotB (s : State) : Slot := opcodeSlotB s.regI

/-- The half of a pair that `busB` selects: 0 low, 1 high (R73, R124). -/
def halfOf (half : BusB) (pair : Addr) : Byte :=
  match half with
  | .reg => loByte pair
  | .d => hiByte pair

/-- `put16` of R101: one half of a pair replaced. -/
def putHalf (half : BusB) (pair : Addr) (v : Byte) : Addr :=
  match half with
  | .reg => joinBytes (hiByte pair) v
  | .d => joinBytes v (loByte pair)

/-- `spfix` of R101: `SP_BASE_HI` ORed into the high byte (R29). -/
def State.spFix (s : State) (v : Addr) : Addr := v ||| joinBytes s.cfg.spBaseHi 0

/-! ### Flags -/

/-- The active flag bank: `I[7]`, true for bank 1 (R31, R92). -/
def State.bank (s : State) : Bool := s.regI.getLsbD 7

/-- `C[bank]` (R9). -/
def State.carryOf (s : State) (bank : Bool) : Bool := if bank then s.c1 else s.c0

/-- `Z[bank]` (R9). -/
def State.zeroOf (s : State) (bank : Bool) : Bool := if bank then s.z1 else s.z0

/-- `C[bank] <- c; Z[bank] <- z` (R33). -/
def State.setFlags (s : State) (bank c z : Bool) : State :=
  if bank then { s with c1 := c, z1 := z } else { s with c0 := c, z0 := z }

/-! ### Memory -/

/-- `MemRead(addr, 1)` (R53). -/
def State.memRead (s : State) (addr : Addr) : Byte :=
  if addr.toNat < s.cfg.bootSize then Memory.read bootBlank s.cfg.boot addr.toNat
  else Memory.read ramBlank s.ram addr.toNat

/-- `MemWrite(addr, 1, v)` (R54): ignored inside the bootstrap region. -/
def State.memWrite (s : State) (addr : Addr) (v : Byte) : State :=
  if addr.toNat < s.cfg.bootSize then s
  else { s with ram := Memory.write ramBlank s.ram addr.toNat v }

/-! ### Control store -/

/-- `Rom(a)`: the control word `{ROM1[a], ROM0[a]}` at an index (R9, R94). -/
def romWord (g : Config) (a : RomAddr) : CtrlBits :=
  controlBits (Memory.read (rom0Blank g.fill) g.rom0 a.toNat) (Memory.read (rom1Blank g.fill) g.rom1 a.toNat)

/-- `ra` = `I * 64 + cycle * 4 + C[bank] * 2 + Z[bank]`, bit 14 always 0 (R80, R93). -/
def State.romAddr (s : State) : RomAddr :=
  (0 : BitVec 1) ++ s.regI ++ s.cycle ++ BitVec.ofBool (s.carryOf s.bank) ++ BitVec.ofBool (s.zeroOf s.bank)

/-- The control word of this micro-cycle (R94). -/
def State.controlWord (s : State) : CtrlBits := romWord s.cfg s.romAddr

/-! ### Sequencing -/

/-- Steps 8 of the transition but for the counter: `tick <- tick + 1`, and `IN[4]` inverted when the new `tick` is a
multiple of `CLK_TOGGLE_PERIOD` (R99, R100). -/
def State.endTick (s : State) : State :=
  { s with
    tick := s.tick + 1
    regIN := if (s.tick + 1) % s.cfg.clkTogglePeriod = 0 then s.regIN ^^^ 0x10 else s.regIN }

/-- The end of a micro-cycle: `cycle <- 0` when the sink was `AW.RST` or `AW.ADV`, else `cycle + 1` modulo 16; then the
tick (R98 to R100). -/
def State.endCycle (s : State) (rst : Bool) : State :=
  State.endTick { s with cycle := if rst then 0 else s.cycle + 1 }

/-- `emit Out(v)`: the event is numbered by the micro-cycle it happens in, counted from 1 (R134, R306). -/
def State.emit (s : State) (v : Byte) : State := { s with trace := s.trace ++ [(s.tick + 1, v)] }

/-! ### The host and the I/O collaborator -/

/-- The collaborator's bits of `IN` replaced; `IN[4]` stays (R307). -/
def applyInput (e : InputEvent) (v : Byte) : Byte := e.done ++ e.ready ++ v.extractLsb' 4 1 ++ e.data

/-- What the I/O collaborator does before the micro-cycle that starts now (R307, D19). -/
def State.pollInput (s : State) : State :=
  match s.cfg.inputs.find? (fun e => decide (e.tick = s.tick)) with
  | some e => { s with regIN := applyInput e s.regIN }
  | none => s

/-- Reset as the host does it: the reset state of the same machine; the parameters and the host's own mode stay (R320
to R322). -/
def State.hostReset (s : State) : State := { State.resetWith s.cfg with mode := s.mode }

/-- `n` further micro-cycles, as `IN` and `tick` see them: the collaborator acts before each, the clock after. -/
def State.idleTicks : Nat → State → State
  | 0, s => s
  | n + 1, s => State.idleTicks n s.pollInput.endTick

/-- The time an instruction of `n` micro-cycles takes, started just after the collaborator acted (R339). -/
def State.elapse (s : State) (n : Nat) : State := State.idleTicks (n - 1) s.endTick

/-- The fetch that ends an opcode's microprogram: `I <- MemRead(PC, 1); PC <- PC + 1; cycle <- 0` (R12, R102). -/
def State.fetchNext (s : State) : State := { s with regI := s.memRead s.pc, pc := s.pc + 1, cycle := 0 }

/-- The end of an XREF-1 instruction of `n` micro-cycles, its closing fetch included (R221 (c), (g)). -/
def State.finish (s : State) (n : Nat) : State := s.fetchNext.elapse n

end Sys2Proof.Machine
end

