-- ==== Sys2Proof/Machine/Flags.lean ====
section
/-! DEFINITION. The ALU and the flags it computes (43_alu.md R150 to R190). A slice is written once for any width;
the machine's 8-bit unit is two slices of 4 bits with ripple carry (R186). -/

namespace Sys2Proof.Machine

/-- `(f, cout, zero)` of an ALU of width `w`. -/
structure AluOut (w : Nat) where
  f : BitVec w
  carry : Bool
  zero : Bool
  deriving DecidableEq, Repr

/-- A select input applied to all bits of a term. -/
def gate {w : Nat} (v : BitVec w) (select : Bool) : BitVec w := if select then v else 0

/-- The "propagate" term `P = a | (b & S0) | (~b & S1)` (R151). -/
def aluP {w : Nat} (a b : BitVec w) (select : BitVec 4) : BitVec w :=
  a ||| gate b (select.getLsbD 0) ||| gate (~~~b) (select.getLsbD 1)

/-- The "generate" term `G = a & ((b & S3) | (~b & S2))` (R151). -/
def aluG {w : Nat} (a b : BitVec w) (select : BitVec 4) : BitVec w :=
  a &&& (gate b (select.getLsbD 3) ||| gate (~~~b) (select.getLsbD 2))

/-- `v = P + G + cin`, one bit wider than the operands (R152). -/
def aluV {w : Nat} (a b : BitVec w) (select : BitVec 4) (cin : Bool) : BitVec (w + 1) :=
  (aluP a b select).setWidth (w + 1) + (aluG a b select).setWidth (w + 1) + (BitVec.ofBool cin).setWidth (w + 1)

/-- Result, carry and zero of a slice of width `w` (R152): the carry is that of `v` in both modes (D8). -/
def aluSlice {w : Nat} (a b : BitVec w) (alu : AluFields) : AluOut w :=
  let v := aluV a b alu.select alu.carryIn
  let f :=
    match alu.mode with
    | .arith => v.setWidth w
    | .logic => ~~~(aluP a b alu.select ^^^ aluG a b alu.select)
  { f := f, carry := v.getLsbD w, zero := decide (f = 0) }

/-- `Alu4` (R150). -/
def alu4 (a b : Nibble) (alu : AluFields) : AluOut 4 := aluSlice a b alu

/-- `Alu8`: the low slice, then the high slice with the low slice's carry (R186). -/
def alu8 (a b : Byte) (alu : AluFields) : AluOut 8 :=
  let low := alu4 (a.extractLsb' 0 4) (b.extractLsb' 0 4) alu
  let high := alu4 (a.extractLsb' 4 4) (b.extractLsb' 4 4) { alu with carryIn := low.carry }
  { f := high.f ++ low.f, carry := high.carry, zero := low.zero && high.zero }

/-- `T <- f; C[bank] <- c; Z[bank] <- z` for an ALU result (R132). -/
def State.latchAlu (s : State) (bank : Bool) (r : AluOut 8) : State :=
  State.setFlags { s with regT := r.f } bank r.carry r.zero

end Sys2Proof.Machine
end

