-- ==== Sys2Proof/Machine/Operands.lean ====
section
/-! DEFINITION. The operand side of a control word: the address bus, the primary bus and the secondary bus
(41_bus_sources.md R109 to R124). Every source reads the state as it stood when the micro-cycle began and writes
nothing (R91, R109). -/

namespace Sys2Proof.Machine

/-- `abus`: the pair that `busC` chooses (R110 to R113). -/
def abus (c : BusC) (s : State) : Addr :=
  match c with
  | .pc => s.pc
  | .ma => s.ma
  | .sp => s.sp
  | .bp => s.bp

/-- `busA`: the source that `busAR` chooses (R114 to R121); `addr` is the address bus, `half` is `busB`. -/
def busA (ar : BusAR) (half : BusB) (addr : Addr) (s : State) : Byte :=
  match ar with
  | .reg => s.slot s.slotA
  | .d => s.regD
  | .input => s.regIN
  | .t => s.regT
  | .mem => s.memRead addr
  | .pc => halfOf half s.pc
  | .sp => halfOf half s.sp
  | .bp => halfOf half s.bp

/-- `busBv`: the source that `busB` chooses (R122, R123). -/
def busBv (b : BusB) (s : State) : Byte :=
  match b with
  | .reg => s.slot s.slotB
  | .d => s.regD

/-- What stands on the buses in one micro-cycle (R95, R96). -/
structure Buses where
  a : Byte
  b : Byte
  half : BusB
  addr : Addr
  deriving DecidableEq, Repr

/-- Steps 4 to 6 of the transition: all buses resolved from the state before the micro-cycle (R95, R96). -/
def drive (ar : BusAR) (b : BusB) (c : BusC) (s : State) : Buses where
  a := busA ar b (abus c s) s
  b := busBv b s
  half := b
  addr := abus c s

end Sys2Proof.Machine
end

