-- ==== Sys2Proof/Machine/Sinks.lean ====
section
/-! DEFINITION. The sixteen sinks of the primary bus (42_bus_sinks.md R129 to R147): for each an operation that writes
what the sink writes, and the meaning of its row of the opcode table, the whole micro-cycle of a control word with
that sink. A meaning takes only the fields its sink uses (R79). -/

namespace Sys2Proof.Machine

/-- What one instruction answers. -/
abbrev Result := Host.Outcome State Fault Refusal

/-! ### What each sink writes -/

/-- `R[slotA] <- v` (R130). -/
def sinkReg (v : Byte) (s : State) : State := s.setSlot s.slotA v

/-- `D <- v` (R131). -/
def sinkD (v : Byte) (s : State) : State := { s with regD := v }

/-- The ALU on the two buses; the result to `T`, carry and zero to the active bank (R132). -/
def sinkAlu (alu : AluFields) (a b : Byte) (s : State) : State := s.latchAlu s.bank (alu8 a b alu)

/-- `MemWrite(addr, 1, v)` (R133). -/
def sinkMem (addr : Addr) (v : Byte) (s : State) : State := s.memWrite addr v

/-- `OUT <- v; emit Out(v)` (R134). -/
def sinkOut (v : Byte) (s : State) : State := State.emit { s with regOUT := v } v

/-- One half of `PC` (R135). -/
def sinkPc (half : BusB) (v : Byte) (s : State) : State := { s with pc := putHalf half s.pc v }

/-- One half of `SP`, the base ORed in (R136). -/
def sinkSp (half : BusB) (v : Byte) (s : State) : State := { s with sp := s.spFix (putHalf half s.sp v) }

/-- One half of `BP` (R137). -/
def sinkBp (half : BusB) (v : Byte) (s : State) : State := { s with bp := putHalf half s.bp v }

/-- One half of `MA` (R138). -/
def sinkMa (half : BusB) (v : Byte) (s : State) : State := { s with ma := putHalf half s.ma v }

/-- `PC <- PC + 1` (R140). -/
def sinkPcInc (s : State) : State := { s with pc := s.pc + 1 }

/-- `SP <- (SP + 1) | {SP_BASE_HI, 0x00}` (R141). -/
def sinkSpInc (s : State) : State := { s with sp := s.spFix (s.sp + 1) }

/-- `SP <- (SP - 1) | {SP_BASE_HI, 0x00}` (R142). -/
def sinkSpDec (s : State) : State := { s with sp := s.spFix (s.sp - 1) }

/-- `BP <- BP + 1` (R143). -/
def sinkBpInc (s : State) : State := { s with bp := s.bp + 1 }

/-- `BP <- BP - 1` (R144). -/
def sinkBpDec (s : State) : State := { s with bp := s.bp - 1 }

/-- `I <- v; PC <- PC + 1` (R145); the counter is cleared by the end of the micro-cycle. -/
def sinkAdv (v : Byte) (s : State) : State := { s with regI := v, pc := s.pc + 1 }

/-! ### The sink of any control word -/

/-- Step 7 of the transition: the one sink that `busAW` chooses, fed by the buses (R97). -/
def runSink (w : BusAW) (alu : AluFields) (bus : Buses) (s : State) : State :=
  match w with
  | .reg => sinkReg bus.a s
  | .d => sinkD bus.a s
  | .alu => sinkAlu alu bus.a bus.b s
  | .mem => sinkMem bus.addr bus.a s
  | .out => sinkOut bus.a s
  | .pc => sinkPc bus.half bus.a s
  | .sp => sinkSp bus.half bus.a s
  | .bp => sinkBp bus.half bus.a s
  | .ma => sinkMa bus.half bus.a s
  | .pcInc => sinkPcInc s
  | .spInc => sinkSpInc s
  | .spDec => sinkSpDec s
  | .bpInc => sinkBpInc s
  | .bpDec => sinkBpDec s
  | .rst => s
  | .adv => sinkAdv bus.a s

/-- `rst`: the sink clears the micro-cycle counter (R97). -/
def clearsCycle : BusAW → Bool
  | .rst | .adv => true
  | .reg | .d | .alu | .mem | .out | .pc | .sp | .bp | .ma | .pcInc | .spInc | .spDec | .bpInc | .bpDec => false

/-- Steps 7 and 8 of the transition, with given values on the buses (R97 to R100). -/
def runBuses (w : BusAW) (alu : AluFields) (bus : Buses) (s : State) : State :=
  (runSink w alu bus s).endCycle (clearsCycle w)

/-- The micro-cycle of a control word: steps 4 to 8 of the transition (R101). -/
def runControl (cw : ControlWord) (s : State) : State :=
  runBuses cw.busAW cw.alu (drive cw.busAR cw.busB cw.busC s) s

/-! ### The meanings of the sink rows -/

/-- `AW.REG` (R130). -/
def execAwReg (ar : BusAR) (b : BusB) (c : BusC) (s : State) : Result :=
  .next ((sinkReg (busA ar b (abus c s) s) s).endCycle false)

/-- `AW.D` (R131). -/
def execAwD (ar : BusAR) (b : BusB) (c : BusC) (s : State) : Result :=
  .next ((sinkD (busA ar b (abus c s) s) s).endCycle false)

/-- `AW.ALU` (R132). -/
def execAwAlu (ar : BusAR) (b : BusB) (c : BusC) (alu : AluFields) (s : State) : Result :=
  .next ((sinkAlu alu (busA ar b (abus c s) s) (busBv b s) s).endCycle false)

/-- `AW.MEM` (R133). -/
def execAwMem (ar : BusAR) (b : BusB) (c : BusC) (s : State) : Result :=
  .next ((sinkMem (abus c s) (busA ar b (abus c s) s) s).endCycle false)

/-- `AW.OUT` (R134). -/
def execAwOut (ar : BusAR) (b : BusB) (c : BusC) (s : State) : Result :=
  .next ((sinkOut (busA ar b (abus c s) s) s).endCycle false)

/-- `AW.PC` (R135). -/
def execAwPc (ar : BusAR) (b : BusB) (c : BusC) (s : State) : Result :=
  .next ((sinkPc b (busA ar b (abus c s) s) s).endCycle false)

/-- `AW.SP` (R136). -/
def execAwSp (ar : BusAR) (b : BusB) (c : BusC) (s : State) : Result :=
  .next ((sinkSp b (busA ar b (abus c s) s) s).endCycle false)

/-- `AW.BP` (R137). -/
def execAwBp (ar : BusAR) (b : BusB) (c : BusC) (s : State) : Result :=
  .next ((sinkBp b (busA ar b (abus c s) s) s).endCycle false)

/-- `AW.MA` (R138). -/
def execAwMa (ar : BusAR) (b : BusB) (c : BusC) (s : State) : Result :=
  .next ((sinkMa b (busA ar b (abus c s) s) s).endCycle false)

/-- `AW.PC_INC` (R139, R140). -/
def execAwPcInc (s : State) : Result := .next ((sinkPcInc s).endCycle false)

/-- `AW.SP_INC` (R139, R141). -/
def execAwSpInc (s : State) : Result := .next ((sinkSpInc s).endCycle false)

/-- `AW.SP_DEC` (R139, R142). -/
def execAwSpDec (s : State) : Result := .next ((sinkSpDec s).endCycle false)

/-- `AW.BP_INC` (R139, R143). -/
def execAwBpInc (s : State) : Result := .next ((sinkBpInc s).endCycle false)

/-- `AW.BP_DEC` (R139, R144). -/
def execAwBpDec (s : State) : Result := .next ((sinkBpDec s).endCycle false)

/-- `AW.RST` (R146). -/
def execAwRst (s : State) : Result := .next (s.endCycle true)

/-- `AW.ADV` (R145). -/
def execAwAdv (ar : BusAR) (b : BusB) (c : BusC) (s : State) : Result :=
  .next ((sinkAdv (busA ar b (abus c s) s) s).endCycle true)

end Sys2Proof.Machine
end

