-- ==== Sys2Proof/Machine/AluFunctions.lean ====
section
/-! DEFINITION. The meanings of the ALU-function rows (43_alu.md R154 to R185) and of the fetch (R85): the micro-cycle
of a control word whose sink is `AW.ALU` with the row's `aluMode` and `aluSelect`. -/

namespace Sys2Proof.Machine

/-- The micro-cycle of an ALU word: operand `a` from the primary bus, `b` from the secondary, the result to `T` and to
the flags of the active bank (R132). -/
def runFunction (mode : AluMode) (select : BitVec 4) (ar : BusAR) (b : BusB) (c : BusC) (cin : Bool) (s : State) : Result :=
  let alu : AluFields := { select := select, mode := mode, carryIn := cin }
  .next ((sinkAlu alu (busA ar b (abus c s) s) (busBv b s) s).endCycle false)

/-- `ARITH 0`: a (R154). -/
def execArith0 (ar : BusAR) (b : BusB) (c : BusC) (cin : Bool) (s : State) : Result :=
  runFunction .arith 0 ar b c cin s

/-- `ARITH 1`: a OR b (R155). -/
def execArith1 (ar : BusAR) (b : BusB) (c : BusC) (cin : Bool) (s : State) : Result :=
  runFunction .arith 1 ar b c cin s

/-- `ARITH 2`: a OR NOT b (R156). -/
def execArith2 (ar : BusAR) (b : BusB) (c : BusC) (cin : Bool) (s : State) : Result :=
  runFunction .arith 2 ar b c cin s

/-- `ARITH 3`: minus 1 (R157). -/
def execArith3 (ar : BusAR) (b : BusB) (c : BusC) (cin : Bool) (s : State) : Result :=
  runFunction .arith 3 ar b c cin s

/-- `ARITH 4`: a plus (a AND NOT b) (R158). -/
def execArith4 (ar : BusAR) (b : BusB) (c : BusC) (cin : Bool) (s : State) : Result :=
  runFunction .arith 4 ar b c cin s

/-- `ARITH 5`: (a OR b) plus (a AND NOT b) (R159). -/
def execArith5 (ar : BusAR) (b : BusB) (c : BusC) (cin : Bool) (s : State) : Result :=
  runFunction .arith 5 ar b c cin s

/-- `ARITH 6`: a minus b minus 1 (R160). -/
def execArith6 (ar : BusAR) (b : BusB) (c : BusC) (cin : Bool) (s : State) : Result :=
  runFunction .arith 6 ar b c cin s

/-- `ARITH 7`: (a AND NOT b) minus 1 (R161). -/
def execArith7 (ar : BusAR) (b : BusB) (c : BusC) (cin : Bool) (s : State) : Result :=
  runFunction .arith 7 ar b c cin s

/-- `ARITH 8`: a plus (a AND b) (R162). -/
def execArith8 (ar : BusAR) (b : BusB) (c : BusC) (cin : Bool) (s : State) : Result :=
  runFunction .arith 8 ar b c cin s

/-- `ARITH 9`: a plus b (R163). -/
def execArith9 (ar : BusAR) (b : BusB) (c : BusC) (cin : Bool) (s : State) : Result :=
  runFunction .arith 9 ar b c cin s

/-- `ARITH 10`: (a OR NOT b) plus (a AND b) (R164). -/
def execArith10 (ar : BusAR) (b : BusB) (c : BusC) (cin : Bool) (s : State) : Result :=
  runFunction .arith 10 ar b c cin s

/-- `ARITH 11`: (a AND b) minus 1 (R165). -/
def execArith11 (ar : BusAR) (b : BusB) (c : BusC) (cin : Bool) (s : State) : Result :=
  runFunction .arith 11 ar b c cin s

/-- `ARITH 12`: a plus a (R166). -/
def execArith12 (ar : BusAR) (b : BusB) (c : BusC) (cin : Bool) (s : State) : Result :=
  runFunction .arith 12 ar b c cin s

/-- `ARITH 13`: (a OR b) plus a (R167). -/
def execArith13 (ar : BusAR) (b : BusB) (c : BusC) (cin : Bool) (s : State) : Result :=
  runFunction .arith 13 ar b c cin s

/-- `ARITH 14`: (a OR NOT b) plus a (R168). -/
def execArith14 (ar : BusAR) (b : BusB) (c : BusC) (cin : Bool) (s : State) : Result :=
  runFunction .arith 14 ar b c cin s

/-- `ARITH 15`: a minus 1 (R169). -/
def execArith15 (ar : BusAR) (b : BusB) (c : BusC) (cin : Bool) (s : State) : Result :=
  runFunction .arith 15 ar b c cin s

/-- `LOGIC 0`: NOT a (R170). -/
def execLogic0 (ar : BusAR) (b : BusB) (c : BusC) (cin : Bool) (s : State) : Result :=
  runFunction .logic 0 ar b c cin s

/-- `LOGIC 1`: NOT (a OR b) (R171). -/
def execLogic1 (ar : BusAR) (b : BusB) (c : BusC) (cin : Bool) (s : State) : Result :=
  runFunction .logic 1 ar b c cin s

/-- `LOGIC 2`: (NOT a) AND b (R172). -/
def execLogic2 (ar : BusAR) (b : BusB) (c : BusC) (cin : Bool) (s : State) : Result :=
  runFunction .logic 2 ar b c cin s

/-- `LOGIC 3`: 0 (R173). -/
def execLogic3 (ar : BusAR) (b : BusB) (c : BusC) (cin : Bool) (s : State) : Result :=
  runFunction .logic 3 ar b c cin s

/-- `LOGIC 4`: NOT (a AND b) (R174). -/
def execLogic4 (ar : BusAR) (b : BusB) (c : BusC) (cin : Bool) (s : State) : Result :=
  runFunction .logic 4 ar b c cin s

/-- `LOGIC 5`: NOT b (R175). -/
def execLogic5 (ar : BusAR) (b : BusB) (c : BusC) (cin : Bool) (s : State) : Result :=
  runFunction .logic 5 ar b c cin s

/-- `LOGIC 6`: a XOR b (R176). -/
def execLogic6 (ar : BusAR) (b : BusB) (c : BusC) (cin : Bool) (s : State) : Result :=
  runFunction .logic 6 ar b c cin s

/-- `LOGIC 7`: a AND NOT b (R177). -/
def execLogic7 (ar : BusAR) (b : BusB) (c : BusC) (cin : Bool) (s : State) : Result :=
  runFunction .logic 7 ar b c cin s

/-- `LOGIC 8`: (NOT a) OR b (R178). -/
def execLogic8 (ar : BusAR) (b : BusB) (c : BusC) (cin : Bool) (s : State) : Result :=
  runFunction .logic 8 ar b c cin s

/-- `LOGIC 9`: NOT (a XOR b) (R179). -/
def execLogic9 (ar : BusAR) (b : BusB) (c : BusC) (cin : Bool) (s : State) : Result :=
  runFunction .logic 9 ar b c cin s

/-- `LOGIC 10`: b (R180). -/
def execLogic10 (ar : BusAR) (b : BusB) (c : BusC) (cin : Bool) (s : State) : Result :=
  runFunction .logic 10 ar b c cin s

/-- `LOGIC 11`: a AND b (R181). -/
def execLogic11 (ar : BusAR) (b : BusB) (c : BusC) (cin : Bool) (s : State) : Result :=
  runFunction .logic 11 ar b c cin s

/-- `LOGIC 12`: all ones (R182). -/
def execLogic12 (ar : BusAR) (b : BusB) (c : BusC) (cin : Bool) (s : State) : Result :=
  runFunction .logic 12 ar b c cin s

/-- `LOGIC 13`: a OR NOT b (R183). -/
def execLogic13 (ar : BusAR) (b : BusB) (c : BusC) (cin : Bool) (s : State) : Result :=
  runFunction .logic 13 ar b c cin s

/-- `LOGIC 14`: a OR b (R184). -/
def execLogic14 (ar : BusAR) (b : BusB) (c : BusC) (cin : Bool) (s : State) : Result :=
  runFunction .logic 14 ar b c cin s

/-- `LOGIC 15`: a (R185). -/
def execLogic15 (ar : BusAR) (b : BusB) (c : BusC) (cin : Bool) (s : State) : Result :=
  runFunction .logic 15 ar b c cin s

/-- The fetch: `I <- MemRead(PC, 1); PC <- PC + 1; cycle <- 0` (R12, R85). -/
def execFetch (s : State) : Result := .next ((sinkAdv (s.memRead s.pc) s).endCycle true)

end Sys2Proof.Machine
end

