-- ==== Sys2Proof/Machine/MacroMove.lean ====
section
/-! DEFINITION. XREF-1 instructions that move bytes: `NOP`, `HLT`, `OUT`, `IN`, `MOVI`, the loads and stores, the stack,
the base pointer, and the unassigned opcodes (45_reference_rom.md R222 to R226, R246 to R260).

A meaning is the NET EFFECT the rule of the instruction gives, from one instruction boundary to the next: `I` holds the
opcode, `PC` is the address of the byte after it (R221 (a)), and the closing fetch and the micro-cycles the instruction
takes are part of it (`State.finish`). The operand of an instruction is the bytes at `PC` (R82); the step that runs an
instruction decodes it from there. -/

namespace Sys2Proof.Machine

/-- `PC` moved past operand bytes (R221 (b)). -/
def State.skip (s : State) (n : Addr) : State := { s with pc := s.pc + n }

/-- `NOP` (R222). -/
def execNop (s : State) : Result := .next (s.finish 1)

/-- `HLT` (R223): `cycle <- 0` and no fetch. -/
def execHlt (s : State) : Result := .next (s.endCycle true)

/-- `OUT r` (R224). -/
def execOutR (r : Slot) (s : State) : Result := .next ((sinkOut (s.slot r) s).finish 2)

/-- `IN r` (R225). -/
def execInR (r : Slot) (s : State) : Result := .next ((s.setSlot r s.regIN).finish 2)

/-- `MOVI r, imm8` (R226). -/
def execMovi (r : Slot) (imm : Byte) (s : State) : Result := .next (((s.setSlot r imm).skip 1).finish 3)

/-- `LD r, addr16` (R246). -/
def execLd (r : Slot) (addr : Addr) (s : State) : Result :=
  .next (((State.setSlot { s with ma := addr } r (s.memRead addr)).skip 2).finish 6)

/-- `ST r, addr16` (R247). -/
def execSt (r : Slot) (addr : Addr) (s : State) : Result :=
  .next (((State.memWrite { s with ma := addr } addr (s.slot r)).skip 2).finish 6)

/-- `SP <- spfix(SP - 1); MemWrite(SP, 1, v)`: the write uses the decremented `SP` (R248). -/
def pushByte (v : Byte) (s : State) : State := (sinkSpDec s).memWrite (sinkSpDec s).sp v

/-- `PUSH r` (R248). -/
def execPush (r : Slot) (s : State) : Result := .next ((pushByte (s.slot r) s).finish 3)

/-- `POP r` (R249). -/
def execPop (r : Slot) (s : State) : Result :=
  .next ((sinkSpInc (s.setSlot r (s.memRead s.sp))).finish 3)

/-- `MOVBP addr16` (R250). -/
def execMovbp (addr : Addr) (s : State) : Result := .next ((State.skip { s with bp := addr } 2).finish 5)

/-- `MOVSP addr16` (R251). -/
def execMovsp (addr : Addr) (s : State) : Result := .next ((State.skip { s with sp := s.spFix addr } 2).finish 5)

/-- `INCBP` (R252). -/
def execIncbp (s : State) : Result := .next ((sinkBpInc s).finish 2)

/-- `DECBP` (R253). -/
def execDecbp (s : State) : Result := .next ((sinkBpDec s).finish 2)

/-- `LDBP r` (R254). -/
def execLdbp (r : Slot) (s : State) : Result := .next ((s.setSlot r (s.memRead s.bp)).finish 2)

/-- `STBP r` (R255). -/
def execStbp (r : Slot) (s : State) : Result := .next ((s.memWrite s.bp (s.slot r)).finish 2)

/-- `MOVBPL r` (R256). -/
def execMovbpl (r : Slot) (s : State) : Result := .next ((s.setSlot r (loByte s.bp)).finish 2)

/-- `MOVBPH r` (R257). -/
def execMovbph (r : Slot) (s : State) : Result := .next ((s.setSlot r (hiByte s.bp)).finish 2)

/-- `MOVSPL r` (R258). -/
def execMovspl (r : Slot) (s : State) : Result := .next ((s.setSlot r (loByte s.sp)).finish 2)

/-- `MOVSPH r` (R259). -/
def execMovsph (r : Slot) (s : State) : Result := .next ((s.setSlot r (hiByte s.sp)).finish 2)

/-- The unassigned opcodes 0x02 and 0x03: the no-op (R260). -/
def execUnassigned02 (s : State) : Result := .next (s.finish 1)

/-- The unassigned opcode 0x77: the no-op (R260). -/
def execUnassigned77 (s : State) : Result := .next (s.finish 1)

/-- The unassigned opcodes 0xAC to 0xAF: the no-op (R260). -/
def execUnassignedAC (s : State) : Result := .next (s.finish 1)

/-- The unassigned opcodes 0xC0 to 0xFF: the no-op (R260). -/
def execUnassignedC0 (s : State) : Result := .next (s.finish 1)

end Sys2Proof.Machine
end

