-- ==== Sys2Proof/Machine/MacroAlu.lean ====
section
/-! DEFINITION. XREF-1 instructions that compute (45_reference_rom.md R227 to R235, R243 to R245): net effects, as in
Sys2Proof/Machine/MacroMove.lean. Opcodes below 0x80 use flag bank 0, `MOV` (0x80 to 0x8F) bank 1 (R221 (h)). -/

namespace Sys2Proof.Machine

/-- `(f, c, z) = Alu8(R[r], b, alu); T <- f; R[r] <- f; C[bank] <- c; Z[bank] <- z`. -/
def aluToSlot (bank : Bool) (alu : AluFields) (r : Slot) (b : Byte) (s : State) : State :=
  let out := alu8 (s.slot r) b alu
  (s.latchAlu bank out).setSlot r out.f

/-- `D <- imm8`, `PC` past the operand byte. -/
def takeImm (imm : Byte) (s : State) : State := State.skip { s with regD := imm } 1

/-- `ADD r1, r2` (R227): `ARITH 9`, no carry in. -/
def execAdd (r1 r2 : Slot) (s : State) : Result :=
  .next ((aluToSlot false ⟨9, .arith, false⟩ r1 (s.slot r2) s).finish 3)

/-- `SUB r1, r2` (R228): `ARITH 6`, carry in. -/
def execSub (r1 r2 : Slot) (s : State) : Result :=
  .next ((aluToSlot false ⟨6, .arith, true⟩ r1 (s.slot r2) s).finish 3)

/-- `AND r1, r2` (R229): `LOGIC 11`. -/
def execAnd (r1 r2 : Slot) (s : State) : Result :=
  .next ((aluToSlot false ⟨11, .logic, false⟩ r1 (s.slot r2) s).finish 3)

/-- `OR r1, r2` (R230): `LOGIC 14`. -/
def execOr (r1 r2 : Slot) (s : State) : Result :=
  .next ((aluToSlot false ⟨14, .logic, false⟩ r1 (s.slot r2) s).finish 3)

/-- `XOR r1, r2` (R231): `LOGIC 6`. -/
def execXor (r1 r2 : Slot) (s : State) : Result :=
  .next ((aluToSlot false ⟨6, .logic, false⟩ r1 (s.slot r2) s).finish 3)

/-- `ADDI r, imm8` (R232): `ARITH 9`, no carry in. -/
def execAddi (r : Slot) (imm : Byte) (s : State) : Result :=
  .next ((aluToSlot false ⟨9, .arith, false⟩ r imm (takeImm imm s)).finish 5)

/-- `SUBI r, imm8` (R233): `ARITH 6`, carry in. -/
def execSubi (r : Slot) (imm : Byte) (s : State) : Result :=
  .next ((aluToSlot false ⟨6, .arith, true⟩ r imm (takeImm imm s)).finish 5)

/-- `ADCI r, imm8` (R234): `ARITH 9` with the carry of bank 0 as it stood before. -/
def execAdci (r : Slot) (imm : Byte) (s : State) : Result :=
  .next ((aluToSlot false ⟨9, .arith, s.c0⟩ r imm (takeImm imm s)).finish 5)

/-- `CMPI r, imm8` (R235): `ARITH 6`, carry in; the result goes to `T` only. -/
def execCmpi (r : Slot) (imm : Byte) (s : State) : Result :=
  .next (((takeImm imm s).latchAlu false (alu8 (s.slot r) imm ⟨6, .arith, true⟩)).finish 4)

/-- `INC r` (R243): `ARITH 0`, carry in; the block 0x78 has `I[3:2]` = 2, so the unused second operand is `X`. -/
def execInc (r : Slot) (s : State) : Result :=
  .next ((aluToSlot false ⟨0, .arith, true⟩ r (s.slot .X) s).finish 3)

/-- `DEC r` (R244): `ARITH 15`, no carry in; the block 0x7C has `I[3:2]` = 3, so the unused second operand is `Y`. -/
def execDec (r : Slot) (s : State) : Result :=
  .next ((aluToSlot false ⟨15, .arith, false⟩ r (s.slot .Y) s).finish 3)

/-- `MOV r1, r2` (R245): `LOGIC 10` in flag bank 1. -/
def execMov (r1 r2 : Slot) (s : State) : Result :=
  .next ((aluToSlot true ⟨10, .logic, false⟩ r1 (s.slot r2) s).finish 3)

end Sys2Proof.Machine
end

