-- ==== Sys2Proof/Machine/MacroFlow.lean ====
section
/-! DEFINITION. XREF-1 instructions that transfer control (45_reference_rom.md R236 to R242): net effects, as in
Sys2Proof/Machine/MacroMove.lean. -/

namespace Sys2Proof.Machine

/-- `D <- low operand byte; PC <- addr16`, 5 micro-cycles (R236). -/
def jumpTo (addr : Addr) (s : State) : State := State.finish { s with regD := loByte addr, pc := addr } 5

/-- The operand bytes skipped, 3 micro-cycles (R237 to R240). -/
def fallThrough (s : State) : State := (s.skip 2).finish 3

/-- `JMP addr16` (R236). -/
def execJmp (addr : Addr) (s : State) : Result := .next (jumpTo addr s)

/-- `JC addr16` (R237). -/
def execJc (addr : Addr) (s : State) : Result := .next (if s.c0 then jumpTo addr s else fallThrough s)

/-- `JNC addr16` (R238). -/
def execJnc (addr : Addr) (s : State) : Result := .next (if s.c0 then fallThrough s else jumpTo addr s)

/-- `JZ addr16` (R239). -/
def execJz (addr : Addr) (s : State) : Result := .next (if s.z0 then jumpTo addr s else fallThrough s)

/-- `JNZ addr16` (R240). -/
def execJnz (addr : Addr) (s : State) : Result := .next (if s.z0 then fallThrough s else jumpTo addr s)

/-- `CALL addr16` (R241): the address of the high operand byte is pushed, high byte first, and only then is the high
operand byte read, so a push that hits it is seen. -/
def execCall (addr : Addr) (s : State) : Result :=
  let s1 := State.skip { s with regD := loByte addr } 1
  let s2 := pushByte (loByte s1.pc) (pushByte (hiByte s1.pc) s1)
  .next (State.finish { s2 with pc := joinBytes (s2.memRead s2.pc) (loByte addr) } 9)

/-- `RET` (R242): low byte, then high byte, then the 1 that `CALL` left out. -/
def execRet (s : State) : Result :=
  let s1 := sinkSpInc { s with regD := s.memRead s.sp }
  let s2 := sinkSpInc s1
  .next (State.finish { s2 with pc := joinBytes (s1.memRead s1.sp) s1.regD + 1 } 7)

end Sys2Proof.Machine
end

