-- ==== Sys2Proof/Machine/Sources.lean ====
section
/-! DEFINITION. The meanings of the source rows of the opcode table (41_bus_sources.md): the micro-cycle of a control
word whose `busAR`, `busB` or `busC` is the one of the row. Each meaning names the register its row puts on the bus. -/

namespace Sys2Proof.Machine

/-- The micro-cycle with a given value on the primary bus, the other buses driven as the word says. -/
def runPrimary (v : Byte) (w : BusAW) (b : BusB) (c : BusC) (alu : AluFields) (s : State) : Result :=
  .next (runBuses w alu { a := v, b := busBv b s, half := b, addr := abus c s } s)

/-- The micro-cycle with a given value on the secondary bus and a given half, the other buses driven as the word
says: the one bit `busB` is both (R124). -/
def runSecondary (v : Byte) (half : BusB) (ar : BusAR) (w : BusAW) (c : BusC) (alu : AluFields) (s : State) : Result :=
  .next (runBuses w alu { a := busA ar half (abus c s) s, b := v, half := half, addr := abus c s } s)

/-- The micro-cycle with a given pair on the address bus, the other buses driven as the word says. -/
def runAddress (pair : Addr) (ar : BusAR) (w : BusAW) (b : BusB) (alu : AluFields) (s : State) : Result :=
  .next (runBuses w alu { a := busA ar b pair s, b := busBv b s, half := b, addr := pair } s)

/-- `AR.REG` (R114). -/
def execArReg (w : BusAW) (b : BusB) (c : BusC) (alu : AluFields) (s : State) : Result :=
  runPrimary (s.slot s.slotA) w b c alu s

/-- `AR.D` (R115). -/
def execArD (w : BusAW) (b : BusB) (c : BusC) (alu : AluFields) (s : State) : Result :=
  runPrimary s.regD w b c alu s

/-- `AR.IN` (R116). -/
def execArIn (w : BusAW) (b : BusB) (c : BusC) (alu : AluFields) (s : State) : Result :=
  runPrimary s.regIN w b c alu s

/-- `AR.T` (R117). -/
def execArT (w : BusAW) (b : BusB) (c : BusC) (alu : AluFields) (s : State) : Result :=
  runPrimary s.regT w b c alu s

/-- `AR.MEM` (R118). -/
def execArMem (w : BusAW) (b : BusB) (c : BusC) (alu : AluFields) (s : State) : Result :=
  runPrimary (s.memRead (abus c s)) w b c alu s

/-- `AR.PC` (R119). -/
def execArPc (w : BusAW) (b : BusB) (c : BusC) (alu : AluFields) (s : State) : Result :=
  runPrimary (halfOf b s.pc) w b c alu s

/-- `AR.SP` (R120). -/
def execArSp (w : BusAW) (b : BusB) (c : BusC) (alu : AluFields) (s : State) : Result :=
  runPrimary (halfOf b s.sp) w b c alu s

/-- `AR.BP` (R121). -/
def execArBp (w : BusAW) (b : BusB) (c : BusC) (alu : AluFields) (s : State) : Result :=
  runPrimary (halfOf b s.bp) w b c alu s

/-- `BB.REG` (R122). -/
def execBbReg (ar : BusAR) (w : BusAW) (c : BusC) (alu : AluFields) (s : State) : Result :=
  runSecondary (s.slot s.slotB) .reg ar w c alu s

/-- `BB.D` (R123). -/
def execBbD (ar : BusAR) (w : BusAW) (c : BusC) (alu : AluFields) (s : State) : Result :=
  runSecondary s.regD .d ar w c alu s

/-- `BC.PC` (R110). -/
def execBcPc (ar : BusAR) (w : BusAW) (b : BusB) (alu : AluFields) (s : State) : Result :=
  runAddress s.pc ar w b alu s

/-- `BC.MA` (R111). -/
def execBcMa (ar : BusAR) (w : BusAW) (b : BusB) (alu : AluFields) (s : State) : Result :=
  runAddress s.ma ar w b alu s

/-- `BC.SP` (R112). -/
def execBcSp (ar : BusAR) (w : BusAW) (b : BusB) (alu : AluFields) (s : State) : Result :=
  runAddress s.sp ar w b alu s

/-- `BC.BP` (R113). -/
def execBcBp (ar : BusAR) (w : BusAW) (b : BusB) (alu : AluFields) (s : State) : Result :=
  runAddress s.bp ar w b alu s

end Sys2Proof.Machine
end

