-- ==== Sys2Proof/Machine/Dispatch.lean ====
section
/-! DEFINITION. The meaning of every instruction: one arm per row of spec/opcode_table.json. -/

namespace Sys2Proof.Machine

def exec (i : Instr) (s : State) : Host.Outcome State Fault Refusal :=
  match i with
  | .awReg ar b c _ => Sys2Proof.Machine.execAwReg ar b c s
  | .awD ar b c _ => Sys2Proof.Machine.execAwD ar b c s
  | .awAlu ar b c alu => Sys2Proof.Machine.execAwAlu ar b c alu s
  | .awMem ar b c _ => Sys2Proof.Machine.execAwMem ar b c s
  | .awOut ar b c _ => Sys2Proof.Machine.execAwOut ar b c s
  | .awPc ar b c _ => Sys2Proof.Machine.execAwPc ar b c s
  | .awSp ar b c _ => Sys2Proof.Machine.execAwSp ar b c s
  | .awBp ar b c _ => Sys2Proof.Machine.execAwBp ar b c s
  | .awMa ar b c _ => Sys2Proof.Machine.execAwMa ar b c s
  | .awPcInc _ _ _ _ => Sys2Proof.Machine.execAwPcInc s
  | .awSpInc _ _ _ _ => Sys2Proof.Machine.execAwSpInc s
  | .awSpDec _ _ _ _ => Sys2Proof.Machine.execAwSpDec s
  | .awBpInc _ _ _ _ => Sys2Proof.Machine.execAwBpInc s
  | .awBpDec _ _ _ _ => Sys2Proof.Machine.execAwBpDec s
  | .awRst _ _ _ _ => Sys2Proof.Machine.execAwRst s
  | .awAdv ar b c _ => Sys2Proof.Machine.execAwAdv ar b c s
  | .arReg w b c alu => Sys2Proof.Machine.execArReg w b c alu s
  | .arD w b c alu => Sys2Proof.Machine.execArD w b c alu s
  | .arIn w b c alu => Sys2Proof.Machine.execArIn w b c alu s
  | .arT w b c alu => Sys2Proof.Machine.execArT w b c alu s
  | .arMem w b c alu => Sys2Proof.Machine.execArMem w b c alu s
  | .arPc w b c alu => Sys2Proof.Machine.execArPc w b c alu s
  | .arSp w b c alu => Sys2Proof.Machine.execArSp w b c alu s
  | .arBp w b c alu => Sys2Proof.Machine.execArBp w b c alu s
  | .bbReg ar w c alu => Sys2Proof.Machine.execBbReg ar w c alu s
  | .bbD ar w c alu => Sys2Proof.Machine.execBbD ar w c alu s
  | .bcPc ar w b alu => Sys2Proof.Machine.execBcPc ar w b alu s
  | .bcMa ar w b alu => Sys2Proof.Machine.execBcMa ar w b alu s
  | .bcSp ar w b alu => Sys2Proof.Machine.execBcSp ar w b alu s
  | .bcBp ar w b alu => Sys2Proof.Machine.execBcBp ar w b alu s
  | .arith0 ar b c cin => Sys2Proof.Machine.execArith0 ar b c cin s
  | .arith1 ar b c cin => Sys2Proof.Machine.execArith1 ar b c cin s
  | .arith2 ar b c cin => Sys2Proof.Machine.execArith2 ar b c cin s
  | .arith3 ar b c cin => Sys2Proof.Machine.execArith3 ar b c cin s
  | .arith4 ar b c cin => Sys2Proof.Machine.execArith4 ar b c cin s
  | .arith5 ar b c cin => Sys2Proof.Machine.execArith5 ar b c cin s
  | .arith6 ar b c cin => Sys2Proof.Machine.execArith6 ar b c cin s
  | .arith7 ar b c cin => Sys2Proof.Machine.execArith7 ar b c cin s
  | .arith8 ar b c cin => Sys2Proof.Machine.execArith8 ar b c cin s
  | .arith9 ar b c cin => Sys2Proof.Machine.execArith9 ar b c cin s
  | .arith10 ar b c cin => Sys2Proof.Machine.execArith10 ar b c cin s
  | .arith11 ar b c cin => Sys2Proof.Machine.execArith11 ar b c cin s
  | .arith12 ar b c cin => Sys2Proof.Machine.execArith12 ar b c cin s
  | .arith13 ar b c cin => Sys2Proof.Machine.execArith13 ar b c cin s
  | .arith14 ar b c cin => Sys2Proof.Machine.execArith14 ar b c cin s
  | .arith15 ar b c cin => Sys2Proof.Machine.execArith15 ar b c cin s
  | .logic0 ar b c cin => Sys2Proof.Machine.execLogic0 ar b c cin s
  | .logic1 ar b c cin => Sys2Proof.Machine.execLogic1 ar b c cin s
  | .logic2 ar b c cin => Sys2Proof.Machine.execLogic2 ar b c cin s
  | .logic3 ar b c cin => Sys2Proof.Machine.execLogic3 ar b c cin s
  | .logic4 ar b c cin => Sys2Proof.Machine.execLogic4 ar b c cin s
  | .logic5 ar b c cin => Sys2Proof.Machine.execLogic5 ar b c cin s
  | .logic6 ar b c cin => Sys2Proof.Machine.execLogic6 ar b c cin s
  | .logic7 ar b c cin => Sys2Proof.Machine.execLogic7 ar b c cin s
  | .logic8 ar b c cin => Sys2Proof.Machine.execLogic8 ar b c cin s
  | .logic9 ar b c cin => Sys2Proof.Machine.execLogic9 ar b c cin s
  | .logic10 ar b c cin => Sys2Proof.Machine.execLogic10 ar b c cin s
  | .logic11 ar b c cin => Sys2Proof.Machine.execLogic11 ar b c cin s
  | .logic12 ar b c cin => Sys2Proof.Machine.execLogic12 ar b c cin s
  | .logic13 ar b c cin => Sys2Proof.Machine.execLogic13 ar b c cin s
  | .logic14 ar b c cin => Sys2Proof.Machine.execLogic14 ar b c cin s
  | .logic15 ar b c cin => Sys2Proof.Machine.execLogic15 ar b c cin s
  | .fetch => Sys2Proof.Machine.execFetch s
  | .nop => Sys2Proof.Machine.execNop s
  | .hlt => Sys2Proof.Machine.execHlt s
  | .outR r => Sys2Proof.Machine.execOutR r s
  | .inR r => Sys2Proof.Machine.execInR r s
  | .movi r imm => Sys2Proof.Machine.execMovi r imm s
  | .add r1 r2 => Sys2Proof.Machine.execAdd r1 r2 s
  | .sub r1 r2 => Sys2Proof.Machine.execSub r1 r2 s
  | .and r1 r2 => Sys2Proof.Machine.execAnd r1 r2 s
  | .or r1 r2 => Sys2Proof.Machine.execOr r1 r2 s
  | .xor r1 r2 => Sys2Proof.Machine.execXor r1 r2 s
  | .addi r imm => Sys2Proof.Machine.execAddi r imm s
  | .subi r imm => Sys2Proof.Machine.execSubi r imm s
  | .adci r imm => Sys2Proof.Machine.execAdci r imm s
  | .cmpi r imm => Sys2Proof.Machine.execCmpi r imm s
  | .jmp addr => Sys2Proof.Machine.execJmp addr s
  | .jc addr => Sys2Proof.Machine.execJc addr s
  | .jnc addr => Sys2Proof.Machine.execJnc addr s
  | .jz addr => Sys2Proof.Machine.execJz addr s
  | .jnz addr => Sys2Proof.Machine.execJnz addr s
  | .call addr => Sys2Proof.Machine.execCall addr s
  | .ret => Sys2Proof.Machine.execRet s
  | .inc r => Sys2Proof.Machine.execInc r s
  | .dec r => Sys2Proof.Machine.execDec r s
  | .mov r1 r2 => Sys2Proof.Machine.execMov r1 r2 s
  | .ld r addr => Sys2Proof.Machine.execLd r addr s
  | .st r addr => Sys2Proof.Machine.execSt r addr s
  | .push r => Sys2Proof.Machine.execPush r s
  | .pop r => Sys2Proof.Machine.execPop r s
  | .movbp addr => Sys2Proof.Machine.execMovbp addr s
  | .movsp addr => Sys2Proof.Machine.execMovsp addr s
  | .incbp => Sys2Proof.Machine.execIncbp s
  | .decbp => Sys2Proof.Machine.execDecbp s
  | .ldbp r => Sys2Proof.Machine.execLdbp r s
  | .stbp r => Sys2Proof.Machine.execStbp r s
  | .movbpl r => Sys2Proof.Machine.execMovbpl r s
  | .movbph r => Sys2Proof.Machine.execMovbph r s
  | .movspl r => Sys2Proof.Machine.execMovspl r s
  | .movsph r => Sys2Proof.Machine.execMovsph r s
  | .unassigned02 _ => Sys2Proof.Machine.execUnassigned02 s
  | .unassigned77 => Sys2Proof.Machine.execUnassigned77 s
  | .unassignedAC _ => Sys2Proof.Machine.execUnassignedAC s
  | .unassignedC0 _ => Sys2Proof.Machine.execUnassignedC0 s

end Sys2Proof.Machine
end

