-- ==== Sys2Proof/Machine/Sequencer.lean ====
section
/-! DEFINITION. How instructions are fetched and run: the micro-cycle of the sequencer (40_sequencer.md R92 to R101),
one visible instruction of the host's step mode (R104, D24), and where a word has to stand to be the next one run. -/

namespace Sys2Proof.Machine

/-- The control word the sequencer reads in this micro-cycle, as an instruction (R92 to R94). -/
def fetchControl (s : State) : Instr := decodeControl s.controlWord

/-- One micro-cycle: the collaborator acts, then the control word at `ra` runs (R101, R307). -/
def tickStep (s : State) : Result := exec (fetchControl s.pollInput) s.pollInput

/-- Micro-cycles until `cycle` = 0 again, at most `n` (D24). -/
def runToBoundary : Nat → State → Result
  | 0, s => .next s
  | n + 1, s =>
    match tickStep s with
    | .next t => if t.cycle = 0 then .next t else runToBoundary n t
    | .fault r => .fault r
    | .refused r => .refused r

/-- The machine stands at an instruction boundary and its control store is XREF-1 with nothing changed: what `I` and
the bytes at `PC` hold is an instruction of format `OP8` (R12, R221 (a)). -/
def State.atXrefBoundary (s : State) : Bool :=
  decide (s.cycle = 0) && decide (s.cfg.fill = .xref1) && s.cfg.rom0.isEmpty && s.cfg.rom1.isEmpty

/-- The instruction at an XREF-1 boundary: the opcode in `I`, the operand bytes at `PC` (R82, R221). -/
def fetchOpcode (s : State) : Instr := decodeOpcode s.regI (s.memRead s.pc) (s.memRead (s.pc + 1))

/-- One visible instruction (R104, D24): by its net effect at an XREF-1 boundary, else micro-cycle by micro-cycle. The
counter has 4 bits, so 16 micro-cycles always reach `cycle` = 0 (R34, R98). -/
def instructionStep (s : State) : Result :=
  if s.atXrefBoundary then exec (fetchOpcode s) s.pollInput else runToBoundary 16 s

/-! ### Placing a word -/

/-- `s` with a control word at the entry its next micro-cycle reads. -/
def placeControl (s : State) (w : CtrlBits) : State :=
  let a := s.romAddr.toNat
  { s with
    mode := .tick
    cfg := { s.cfg with
      rom0 := Memory.write (rom0Blank s.cfg.fill) s.cfg.rom0 a (loByte w)
      rom1 := Memory.write (rom1Blank s.cfg.fill) s.cfg.rom1 a (hiByte w) } }

/-- `s` with a byte at a memory address, in the image or in `RAM`: what a loader does before the machine runs (R65). -/
def pokeByte (s : State) (addr : Addr) (v : Byte) : State :=
  if addr.toNat < s.cfg.bootSize then
    { s with cfg := { s.cfg with boot := Memory.write bootBlank s.cfg.boot addr.toNat v } }
  else { s with ram := Memory.write ramBlank s.ram addr.toNat v }

/-- `s` at an instruction boundary of XREF-1 with an opcode in `I` and its operand bytes at `PC`. -/
def placeOpcode (s : State) (op lo hi : Byte) : State :=
  let t := pokeByte (pokeByte s s.pc lo) (s.pc + 1) hi
  { t with
    regI := op
    cycle := 0
    mode := .instruction
    cfg := { t.cfg with fill := .xref1, rom0 := [], rom1 := [] } }

/-- A word of the opcode table placed: 16 bits are a control word, any other number an opcode with its operand bytes. -/
def placeWord (s : State) (nbits w : Nat) : State :=
  let word := BitVec.ofNat 24 w
  if nbits = 16 then placeControl s (word.extractLsb' 0 16)
  else placeOpcode s (word.extractLsb' 0 8) (word.extractLsb' 8 8) (word.extractLsb' 16 8)

end Sys2Proof.Machine
end

