-- ==== Sys2Proof/Machine/Step.lean ====
section
/-! DEFINITION. The step function, and the state in which the next step runs a given word. -/

namespace Sys2Proof.Machine

/-- One step: a micro-cycle of the hardware (R90, R101), or one visible instruction when the host asks for that (R104,
D24; log entry 2). -/
def step (s : State) : Host.Outcome State Fault Refusal :=
  match s.mode with
  | .tick => tickStep s
  | .instruction => instructionStep s

/-- `s` with the word `w` of `nbits` bits stored where `step` fetches its next instruction (log entry 4). -/
def State.withFetchWord (s : State) (nbits w : Nat) : State := placeWord s nbits w

end Sys2Proof.Machine
end

