-- ==== Sys2Proof/Safety.lean ====
section
/-! DEFINITION. The terms in which statements about this machine are made: its places as a closed list, what a
micro-cycle and an XREF-1 instruction change and leave alone, and what a sound state is. No step ends in a fault
(60_exceptions.md R300), so what there is to keep safe is the form of the state.

`sinkPost` says the writes of a micro-cycle column by column, as the access matrix R37 lists them, in arithmetic over
natural numbers. It is written apart from the meanings, which go sink by sink. -/

namespace Sys2Proof.Machine

/-! ### Places -/

/-- The register, flag and counter places of the machine (R37); memory, the output trace and the parameters are not
places. -/
inductive Place where
  | slot (k : Slot)
  | d | t | i | input | out | pc | sp | bp | ma
  | carry (bank : Bool)
  | zero (bank : Bool)
  | cycle | tick
  deriving DecidableEq, Repr

/-- What a place holds, as a number. -/
def State.at (s : State) : Place → Nat
  | .slot k => (s.slot k).toNat
  | .d => s.regD.toNat
  | .t => s.regT.toNat
  | .i => s.regI.toNat
  | .input => s.regIN.toNat
  | .out => s.regOUT.toNat
  | .pc => s.pc.toNat
  | .sp => s.sp.toNat
  | .bp => s.bp.toNat
  | .ma => s.ma.toNat
  | .carry bank => (s.carryOf bank).toNat
  | .zero bank => (s.zeroOf bank).toNat
  | .cycle => s.cycle.toNat
  | .tick => s.tick

/-! ### Frames -/

/-- Every place outside the list holds what it held. -/
def State.keepsBut (s t : State) (written : List Place) : Prop := ∀ p, p ∉ written → t.at p = s.at p

/-- Every address reads as it did. -/
def State.keepsMemory (s t : State) : Prop := ∀ a, t.memRead a = s.memRead a

/-- The byte `v` is stored at `a` and every other address reads as it did; inside the bootstrap region nothing is
stored (R54). -/
def State.storesByte (s t : State) (a : Addr) (v : Byte) : Prop :=
  ∀ x, t.memRead x = if x = a ∧ s.cfg.bootSize ≤ a.toNat then v else s.memRead x

/-- The parameters and the host's own mode stay (R7, R322). -/
def State.keepsHost (s t : State) : Prop := t.cfg = s.cfg ∧ t.mode = s.mode

/-- No output event is raised (R306). -/
def State.silent (s t : State) : Prop := t.trace = s.trace

/-- What every micro-cycle does to the counters and to `IN`: `cycle` 0 after a reset sink, else one more modulo 16;
`tick` one more; bit 4 of `IN` inverted when the new `tick` is a multiple of the period, the other bits kept (R98 to
R100). -/
def State.endsCycle (s t : State) (rst : Bool) : Prop :=
  t.cycle.toNat = (if rst then 0 else (s.cycle.toNat + 1) % 16) ∧
  t.tick = s.tick + 1 ∧
  ∀ k, k < 8 → t.regIN.getLsbD k =
    (s.regIN.getLsbD k != (decide (k = 4) && decide ((s.tick + 1) % s.cfg.clkTogglePeriod = 0)))

/-- The places every micro-cycle writes. -/
def cyclePlaces : List Place := [.cycle, .tick, .input]

/-- A whole micro-cycle that stores nothing in memory and raises no event, and whose sink writes only the listed
places. -/
def State.microCycle (s t : State) (rst : Bool) (written : List Place) : Prop :=
  s.endsCycle t rst ∧ s.keepsBut t (written ++ cyclePlaces) ∧ s.keepsMemory t ∧ s.silent t ∧ s.keepsHost t

/-! ### The writes of a micro-cycle, place by place -/

/-- A pair with one half replaced, as a number (R124). -/
def withHalf (half : BusB) (pair : Nat) (v : Byte) : Nat :=
  match half with
  | .reg => pair / 256 * 256 + v.toNat
  | .d => v.toNat * 256 + pair % 256

/-- `SP_BASE_HI` ORed into the high byte of a number below 65536 (R29). -/
def withBase (base : Byte) (v : Nat) : Nat := v ||| base.toNat * 256

/-- What a place holds after a micro-cycle with sink `w`, ALU fields `alu` and bus values `a`, `b`, `half` (R37, R101).
The ALU is the 8-bit closed form (R187). -/
def sinkPost (w : BusAW) (alu : AluFields) (a b : Byte) (half : BusB) (s : State) : Place → Nat
  | .slot k => if w = .reg ∧ k = s.slotA then a.toNat else (s.slot k).toNat
  | .d => if w = .d then a.toNat else s.regD.toNat
  | .t => if w = .alu then (aluSlice a b alu).f.toNat else s.regT.toNat
  | .i => if w = .adv then a.toNat else s.regI.toNat
  | .input => if (s.tick + 1) % s.cfg.clkTogglePeriod = 0 then s.regIN.toNat ^^^ 16 else s.regIN.toNat
  | .out => if w = .out then a.toNat else s.regOUT.toNat
  | .pc =>
    if w = .pc then withHalf half s.pc.toNat a
    else if w = .pcInc ∨ w = .adv then (s.pc.toNat + 1) % 65536
    else s.pc.toNat
  | .sp =>
    if w = .sp then withBase s.cfg.spBaseHi (withHalf half s.sp.toNat a)
    else if w = .spInc then withBase s.cfg.spBaseHi ((s.sp.toNat + 1) % 65536)
    else if w = .spDec then withBase s.cfg.spBaseHi ((s.sp.toNat + 65535) % 65536)
    else s.sp.toNat
  | .bp =>
    if w = .bp then withHalf half s.bp.toNat a
    else if w = .bpInc then (s.bp.toNat + 1) % 65536
    else if w = .bpDec then (s.bp.toNat + 65535) % 65536
    else s.bp.toNat
  | .ma => if w = .ma then withHalf half s.ma.toNat a else s.ma.toNat
  | .carry k => if w = .alu ∧ k = s.bank then (aluSlice a b alu).carry.toNat else (s.carryOf k).toNat
  | .zero k => if w = .alu ∧ k = s.bank then (aluSlice a b alu).zero.toNat else (s.zeroOf k).toNat
  | .cycle => if w = .rst ∨ w = .adv then 0 else (s.cycle.toNat + 1) % 16
  | .tick => s.tick + 1

/-- What a micro-cycle with given bus values does to the whole state: every place as `sinkPost` says, one byte stored
if the sink is `AW.MEM`, one event raised if it is `AW.OUT` (R101, R133, R134, R306). -/
def State.sinkEffect (s t : State) (w : BusAW) (alu : AluFields) (a b : Byte) (half : BusB) (addr : Addr) : Prop :=
  (∀ p, t.at p = sinkPost w alu a b half s p) ∧
  (∀ x, t.memRead x = if w = .mem ∧ x = addr ∧ s.cfg.bootSize ≤ addr.toNat then a else s.memRead x) ∧
  t.trace = s.trace ++ (if w = .out then [(s.tick + 1, a)] else []) ∧
  s.keepsHost t

/-- What an ALU micro-cycle does: the result to `T`, carry and zero to the active bank, all else kept (R132). -/
def State.aluEffect (s t : State) (f : Byte) (carry : Bool) : Prop :=
  t.regT = f ∧ t.carryOf s.bank = carry ∧ t.zeroOf s.bank = decide (f = 0) ∧
  s.microCycle t false [.t, .carry s.bank, .zero s.bank]

/-! ### Instructions of XREF-1 -/

/-- The closing fetch of an instruction of `n` micro-cycles whose next opcode stands at `next`: read after every store
of the instruction, `PC` one past it, `cycle` 0, `n` ticks (R12, R221). What the clock and the collaborator do to `IN`
in that time is `State.elapse`. -/
def State.endsInstruction (s t : State) (n : Nat) (next : Addr) : Prop :=
  t.regI = t.memRead next ∧ t.pc = next + 1 ∧ t.cycle = 0 ∧ t.tick = s.tick + n ∧ t.regIN = (s.elapse n).regIN ∧
  s.keepsHost t

/-- The places the closing fetch and the passing of time write. -/
def fetchPlaces : List Place := [.i, .pc, .cycle, .tick, .input]

/-- An instruction of `n` micro-cycles that stores nothing in memory, raises no event, goes on at `next` and writes
only the listed places. -/
def State.instruction (s t : State) (n : Nat) (next : Addr) (written : List Place) : Prop :=
  s.endsInstruction t n next ∧ s.keepsBut t (written ++ fetchPlaces) ∧ s.keepsMemory t ∧ s.silent t

/-- An ALU instruction of `n` micro-cycles in a flag bank: the result `f` to `T` and to the listed places, the flags
to the bank. -/
def State.aluInstruction (s t : State) (n : Nat) (next : Addr) (bank : Bool) (f : Byte) (carry : Bool)
    (written : List Place) : Prop :=
  t.regT = f ∧ t.carryOf bank = carry ∧ t.zeroOf bank = decide (f = 0) ∧
  s.instruction t n next (written ++ [.t, .carry bank, .zero bank])

/-! ### Sound states -/

/-- The high byte of `SP` has every bit of `SP_BASE_HI` (R29). -/
def State.stackPinned (s : State) : Prop := hiByte s.sp &&& s.cfg.spBaseHi = s.cfg.spBaseHi

/-- `IN[4]` = `floor(tick / CLK_TOGGLE_PERIOD) mod 2`, for a period of at least 1 (R308). -/
def State.clockInPhase (s : State) : Prop :=
  1 ≤ s.cfg.clkTogglePeriod ∧ s.regIN.getLsbD 4 = decide (s.tick / s.cfg.clkTogglePeriod % 2 = 1)

/-- The numbers of the output events rise strictly and none is later than the last micro-cycle (R306). -/
def State.traceOrdered (s : State) : Prop :=
  s.trace.Pairwise (fun e f => e.1 < f.1) ∧ ∀ e ∈ s.trace, e.1 ≤ s.tick

/-- All of it. -/
def State.sound (s : State) : Prop := s.memoryWf ∧ s.stackPinned ∧ s.clockInPhase ∧ s.traceOrdered

end Sys2Proof.Machine
end

