-- ==== Sys2Proof/Certificates/Slice0/Obligations.lean ====
section
/-! DEFINITION. The statements for the provers. Each docstring names the rules of spec/ that the statement formalises,
or says that the statement is the model's own and names the log entry. -/

open Sys2Proof Sys2Proof.Machine

/-! ### Encoding -/

/-- R78: `pack` and `unpack` are inverse to each other; no control word is reserved and no field tuple is lost. -/
def Obligations.CodecIsBijective : Prop :=
  (∀ w : CtrlBits, (ControlWord.unpack w).pack = w) ∧ (∀ cw : ControlWord, ControlWord.unpack cw.pack = cw)

/-- R70: where each of the seven fields stands in the bytes `ROM0[a]` and `ROM1[a]`, as numbers. -/
def Obligations.FieldsOfAControlWord : Prop :=
  ∀ rom0 rom1 : Byte,
    (ControlWord.unpack (controlBits rom0 rom1)).busAR.code.toNat = rom0.toNat % 8 ∧
    (ControlWord.unpack (controlBits rom0 rom1)).busAW.code.toNat = rom0.toNat / 8 % 16 ∧
    (ControlWord.unpack (controlBits rom0 rom1)).busB.code.toNat = rom0.toNat / 128 ∧
    (ControlWord.unpack (controlBits rom0 rom1)).busC.code.toNat = rom1.toNat % 4 ∧
    (ControlWord.unpack (controlBits rom0 rom1)).alu.select.toNat = rom1.toNat / 4 % 16 ∧
    (ControlWord.unpack (controlBits rom0 rom1)).alu.mode.code.toNat = rom1.toNat / 64 % 2 ∧
    (ControlWord.unpack (controlBits rom0 rom1)).alu.carryIn.toNat = rom1.toNat / 128

/-- Decoding the encoding of any instruction of format `CW` gives an instruction of the same control word, the one the
decoder names (the choice of name is the model's, log entry 3); both are rows that the word matches. -/
def Obligations.DecodeEncodeControlWord : Prop :=
  ∀ (i : Instr) (cw : ControlWord) (rest : List Byte), i.control = some cw →
    decode .cw (encode i ++ rest) = .ok (i.canonical, rest) ∧ i.canonical.control = some cw ∧
    i ∈ cw.readings ∧ i.canonical ∈ cw.readings

/-- Decoding the encoding of any well-formed instruction of format `OP8`, operand bytes included, gives it back
(R81, R82, R220, R261). -/
def Obligations.DecodeEncodeOpcode : Prop :=
  ∀ (i : Instr) (op : Byte) (rest : List Byte), i.opcode = some op → i.wellFormed = true →
    decode .op8 (encode i ++ rest) = .ok (i, rest)

/-- Encoding what the decoder read gives the bytes it read, and what it read is well formed. -/
def Obligations.EncodeDecode : Prop :=
  ∀ (f : Format) (bytes : List Byte) (i : Instr) (rest : List Byte), decode f bytes = .ok (i, rest) →
    encode i ++ rest = bytes ∧ i.wellFormed = true ∧ i.format = f

/-- R84, R85: no control word and no opcode is illegal: where the bytes are there, the decoder answers, and it takes two
bytes of a control word and the opcode with its operand bytes of an instruction. -/
def Obligations.NoWordIsIllegal : Prop :=
  (∀ (rom0 rom1 : Byte) (rest : List Byte), ∃ i, decode .cw (rom0 :: rom1 :: rest) = .ok (i, rest)) ∧
  (∀ (op lo hi : Byte) (rest : List Byte), ∃ i,
    decode .op8 (op :: lo :: hi :: rest) = .ok (i, (lo :: hi :: rest).drop (operandCount op)))

/-- Words written out from the spec's encodings: the no-op word 0x007C (R85), `ADD A, B` as a control word 0x2410 (R227),
`OUT` 0x0020 (R224), `MOVI A, 0x05` as the bytes 0C 05 (R226), `ST A, 0x2000` as 94 00 20 (R247), 0xC0 unassigned (R260). The operand bytes of a
descriptor with an immediate and an address lie in the order it declares them, in either order (R82). -/
def Obligations.SampleWordsDecode : Prop :=
  decode .cw [0x7C, 0x00] = .ok (.fetch, []) ∧
  decode .cw [0x10, 0x24] = .ok (.arith9 .reg .reg .pc false, []) ∧
  decode .cw [0x20, 0x00] = .ok (.awOut .reg .reg .pc ⟨0, .arith, false⟩, []) ∧
  decode .op8 [0x0C, 0x05] = .ok (.movi .A 0x05, []) ∧
  decode .op8 [0x94, 0x00, 0x20] = .ok (.st .A 0x2000, []) ∧
  decode .op8 [0xC0] = .ok (.unassignedC0 0xC0, []) ∧
  (∀ c z steps, Descriptor.encode ⟨0xC0, { first := .imm, second := .addr }, c, z, steps⟩ [.imm 0x05, .addr 0x2010] =
    some [0xC0, 0x05, 0x10, 0x20]) ∧
  (∀ c z steps, Descriptor.encode ⟨0xC0, { first := .addr, second := .imm }, c, z, steps⟩ [.addr 0x2010, .imm 0x05] =
    some [0xC0, 0x10, 0x20, 0x05])

/-- R101: whichever of its rows a control word is read by, it is the same micro-cycle. -/
def Obligations.ReadingsShareOneMeaning : Prop :=
  ∀ (cw : ControlWord) (i : Instr) (s : State), i ∈ cw.readings → exec i s = .next (runControl cw s)

/-! ### Running -/

/-- R93: the address of the control word of a micro-cycle. -/
def Obligations.ControlStoreAddress : Prop :=
  ∀ s : State,
    s.romAddr.toNat =
      s.regI.toNat * 64 + s.cycle.toNat * 4 + (s.carryOf (s.regI.getLsbD 7)).toNat * 2 +
        (s.zeroOf (s.regI.getLsbD 7)).toNat ∧
    s.romAddr.toNat ≤ 16383

/-- A micro-cycle runs the instruction that the two control-store bytes at the address of R93 decode to, on the state in
which the collaborator has set its bits of `IN` (R94, R101, R307). -/
def Obligations.MicroCycleRunsControlWord : Prop :=
  ∀ (s : State) (i : Instr), s.mode = .tick →
    decode .cw [Memory.read (rom0Blank s.cfg.fill) s.cfg.rom0 s.romAddr.toNat,
      Memory.read (rom1Blank s.cfg.fill) s.cfg.rom1 s.romAddr.toNat] = .ok (i, []) →
    step s = exec i s.pollInput

/-- In the host's instruction mode, at an instruction boundary of XREF-1, a step runs the instruction that the opcode in
`I` and the operand bytes at `PC` decode to (R82, R104, R221; the mode is the model's, log entry 2). -/
def Obligations.InstructionStepRunsOpcode : Prop :=
  ∀ (s : State) (i : Instr) (rest : List Byte), s.mode = .instruction → s.atXrefBoundary = true →
    decode .op8 [s.regI, s.memRead s.pc, s.memRead (s.pc + 1)] = .ok (i, rest) →
    step s = exec i s.pollInput

/-- A word placed by `State.withFetchWord` is the one the next step runs (the placing is the model's own, log entry 4). -/
def Obligations.PlacedWordRunsNext : Prop :=
  (∀ (s : State) (w : BitVec 24) (i : Instr),
    decode .cw [w.extractLsb' 0 8, w.extractLsb' 8 8] = .ok (i, []) →
    step (s.withFetchWord 16 w.toNat) = exec i (s.withFetchWord 16 w.toNat).pollInput) ∧
  (∀ (s : State) (w : BitVec 24) (i : Instr) (rest : List Byte),
    decode .op8 [w.extractLsb' 0 8, w.extractLsb' 8 8, w.extractLsb' 16 8] = .ok (i, rest) →
    step (s.withFetchWord 8 w.toNat) = exec i (s.withFetchWord 8 w.toNat).pollInput)

/-- R300: there is no cause of a fault, every instruction completes and every state has a successor. -/
def Obligations.NothingStops : Prop :=
  (∀ _ : Fault, False) ∧ (∀ (i : Instr) (s : State), ∃ t, exec i s = .next t) ∧
  (∀ s : State, ∃ t, step s = .next t)

/-- R101, R104: a run in tick mode is the iteration of the micro-cycle of the control word that the sequencer reads, from
every state, `cycle` not 0 included; `Run(m)` completes for every `m`, and `Run(m)` then `Run(n)` is `Run(m + n)`. -/
def Obligations.RunIteratesMicroCycle : Prop :=
  ∀ (m n : Nat) (s : State), s.mode = .tick →
    core.run (n + 1) s = core.run n (runControl (ControlWord.unpack s.controlWord) s.pollInput) ∧
    ∃ t : State, core.run m s = .next t ∧ t.mode = .tick ∧ core.run (m + n) s = core.run n t

/-- R99: `Run(n)` performs `n` micro-cycles and each adds one to `tick`. -/
def Obligations.RunCountsTicks : Prop :=
  ∀ (n : Nat) (s : State), s.mode = .tick → ∃ t : State, core.run n s = .next t ∧ t.tick = s.tick + n

/-- R34, R98: `cycle` has 4 bits, so within 16 micro-cycles of any state comes a state with `cycle` = 0, and running to
the boundary (D24) is running that many micro-cycles. -/
def Obligations.BoundaryWithinSixteen : Prop :=
  ∀ s : State, ∃ (n : Nat) (t : State), 1 ≤ n ∧ n ≤ 16 ∧ runToBoundary 16 s = .next t ∧ t.cycle = 0 ∧
    core.run n { s with mode := .tick } = .next { t with mode := .tick }

/-! ### Sinks -/

/-- R130, R131, R134: `AW.REG` writes the slot of `I[1:0]`, `AW.D` writes `D`, `AW.OUT` writes `OUT` and raises one event
numbered by the micro-cycle; each takes the primary bus and changes nothing else. -/
def Obligations.ByteSinks : Prop :=
  ∀ (ar : BusAR) (b : BusB) (c : BusC) (alu : AluFields) (s : State),
    (∃ t, exec (.awReg ar b c alu) s = .next t ∧
      t.slot (Slot.ofCode (s.regI.extractLsb' 0 2)) = busA ar b (abus c s) s ∧
      s.microCycle t false [.slot (Slot.ofCode (s.regI.extractLsb' 0 2))]) ∧
    (∃ t, exec (.awD ar b c alu) s = .next t ∧ t.regD = busA ar b (abus c s) s ∧ s.microCycle t false [.d]) ∧
    (∃ t, exec (.awOut ar b c alu) s = .next t ∧ t.regOUT = busA ar b (abus c s) s ∧
      t.trace = s.trace ++ [(s.tick + 1, busA ar b (abus c s) s)] ∧
      s.endsCycle t false ∧ s.keepsBut t (.out :: cyclePlaces) ∧ s.keepsMemory t ∧ s.keepsHost t)

/-- R132, R187: `AW.ALU` takes the primary bus as first and the secondary bus as second operand, writes the 8-bit result
to `T` and carry and zero to the bank of `I[7]`, and nothing else. -/
def Obligations.AluSink : Prop :=
  ∀ (ar : BusAR) (b : BusB) (c : BusC) (alu : AluFields) (s : State),
    ∃ t, exec (.awAlu ar b c alu) s = .next t ∧
      s.aluEffect t (aluSlice (busA ar b (abus c s) s) (busBv b s) alu).f
        (aluSlice (busA ar b (abus c s) s) (busBv b s) alu).carry

/-- R54, R133: `AW.MEM` stores the primary bus at the address bus, nowhere else, and not inside the bootstrap region. -/
def Obligations.MemorySink : Prop :=
  ∀ (ar : BusAR) (b : BusB) (c : BusC) (alu : AluFields) (s : State),
    ∃ t, exec (.awMem ar b c alu) s = .next t ∧ s.storesByte t (abus c s) (busA ar b (abus c s) s) ∧
      s.endsCycle t false ∧ s.keepsBut t cyclePlaces ∧ s.silent t ∧ s.keepsHost t

/-- R124, R135 to R138: the four half sinks replace the half that `busB` selects and keep the other; `SP` has its base
ORed in. -/
def Obligations.HalfSinks : Prop :=
  ∀ (ar : BusAR) (b : BusB) (c : BusC) (alu : AluFields) (s : State),
    (∃ t, exec (.awPc ar b c alu) s = .next t ∧
      t.pc.toNat = withHalf b s.pc.toNat (busA ar b (abus c s) s) ∧ s.microCycle t false [.pc]) ∧
    (∃ t, exec (.awSp ar b c alu) s = .next t ∧
      t.sp.toNat = withBase s.cfg.spBaseHi (withHalf b s.sp.toNat (busA ar b (abus c s) s)) ∧
      s.microCycle t false [.sp]) ∧
    (∃ t, exec (.awBp ar b c alu) s = .next t ∧
      t.bp.toNat = withHalf b s.bp.toNat (busA ar b (abus c s) s) ∧ s.microCycle t false [.bp]) ∧
    (∃ t, exec (.awMa ar b c alu) s = .next t ∧
      t.ma.toNat = withHalf b s.ma.toNat (busA ar b (abus c s) s) ∧ s.microCycle t false [.ma])

/-- R139 to R144: the increments and decrements are modulo 65536 on all 16 bits, `SP` with its base ORed in; nothing else
changes, no flag among it. -/
def Obligations.CountingSinks : Prop :=
  ∀ (ar : BusAR) (b : BusB) (c : BusC) (alu : AluFields) (s : State),
    (∃ t, exec (.awPcInc ar b c alu) s = .next t ∧ t.pc.toNat = (s.pc.toNat + 1) % 65536 ∧
      s.microCycle t false [.pc]) ∧
    (∃ t, exec (.awSpInc ar b c alu) s = .next t ∧
      t.sp.toNat = withBase s.cfg.spBaseHi ((s.sp.toNat + 1) % 65536) ∧ s.microCycle t false [.sp]) ∧
    (∃ t, exec (.awSpDec ar b c alu) s = .next t ∧
      t.sp.toNat = withBase s.cfg.spBaseHi ((s.sp.toNat + 65535) % 65536) ∧ s.microCycle t false [.sp]) ∧
    (∃ t, exec (.awBpInc ar b c alu) s = .next t ∧ t.bp.toNat = (s.bp.toNat + 1) % 65536 ∧
      s.microCycle t false [.bp]) ∧
    (∃ t, exec (.awBpDec ar b c alu) s = .next t ∧ t.bp.toNat = (s.bp.toNat + 65535) % 65536 ∧
      s.microCycle t false [.bp])

/-- R145, R146, R85: `AW.RST` clears `cycle` and changes nothing else; `AW.ADV` loads `I` from the primary bus, adds one
to `PC` and clears `cycle`; the fetch is `AW.ADV` from the byte at `PC`. -/
def Obligations.SequencingSinks : Prop :=
  ∀ (ar : BusAR) (b : BusB) (c : BusC) (alu : AluFields) (s : State),
    (∃ t, exec (.awRst ar b c alu) s = .next t ∧ s.microCycle t true []) ∧
    (∃ t, exec (.awAdv ar b c alu) s = .next t ∧ t.regI = busA ar b (abus c s) s ∧
      t.pc.toNat = (s.pc.toNat + 1) % 65536 ∧ s.microCycle t true [.i, .pc]) ∧
    (∃ t, exec .fetch s = .next t ∧ t.regI = s.memRead s.pc ∧ t.pc.toNat = (s.pc.toNat + 1) % 65536 ∧
      s.microCycle t true [.i, .pc])

/-! ### Sources -/

/-- R114 to R121: the eight primary sources. Under any sink the value on the primary bus is the register, the byte or the
half that the row names, and the micro-cycle writes what the sink writes (R37, R101). -/
def Obligations.PrimarySources : Prop :=
  ∀ (w : BusAW) (b : BusB) (c : BusC) (alu : AluFields) (s : State),
    (∃ t, exec (.arReg w b c alu) s = .next t ∧
      s.sinkEffect t w alu (s.slot (Slot.ofCode (s.regI.extractLsb' 0 2))) (busBv b s) b (abus c s)) ∧
    (∃ t, exec (.arD w b c alu) s = .next t ∧ s.sinkEffect t w alu s.regD (busBv b s) b (abus c s)) ∧
    (∃ t, exec (.arIn w b c alu) s = .next t ∧ s.sinkEffect t w alu s.regIN (busBv b s) b (abus c s)) ∧
    (∃ t, exec (.arT w b c alu) s = .next t ∧ s.sinkEffect t w alu s.regT (busBv b s) b (abus c s)) ∧
    (∃ t, exec (.arMem w b c alu) s = .next t ∧
      s.sinkEffect t w alu (s.memRead (abus c s)) (busBv b s) b (abus c s)) ∧
    (∃ t, exec (.arPc w b c alu) s = .next t ∧
      s.sinkEffect t w alu (if b = .d then hiByte s.pc else loByte s.pc) (busBv b s) b (abus c s)) ∧
    (∃ t, exec (.arSp w b c alu) s = .next t ∧
      s.sinkEffect t w alu (if b = .d then hiByte s.sp else loByte s.sp) (busBv b s) b (abus c s)) ∧
    (∃ t, exec (.arBp w b c alu) s = .next t ∧
      s.sinkEffect t w alu (if b = .d then hiByte s.bp else loByte s.bp) (busBv b s) b (abus c s))

/-- R110 to R113, R122 to R124: the two secondary sources, which also select the half of a pair, and the four address
sources, under any primary source and any sink. -/
def Obligations.SecondaryAndAddressSources : Prop :=
  ∀ (ar : BusAR) (w : BusAW) (b : BusB) (c : BusC) (alu : AluFields) (s : State),
    (∃ t, exec (.bbReg ar w c alu) s = .next t ∧
      s.sinkEffect t w alu (busA ar .reg (abus c s) s) (s.slot (Slot.ofCode (s.regI.extractLsb' 2 2))) .reg (abus c s)) ∧
    (∃ t, exec (.bbD ar w c alu) s = .next t ∧
      s.sinkEffect t w alu (busA ar .d (abus c s) s) s.regD .d (abus c s)) ∧
    (∃ t, exec (.bcPc ar w b alu) s = .next t ∧ s.sinkEffect t w alu (busA ar b s.pc s) (busBv b s) b s.pc) ∧
    (∃ t, exec (.bcMa ar w b alu) s = .next t ∧ s.sinkEffect t w alu (busA ar b s.ma s) (busBv b s) b s.ma) ∧
    (∃ t, exec (.bcSp ar w b alu) s = .next t ∧ s.sinkEffect t w alu (busA ar b s.sp s) (busBv b s) b s.sp) ∧
    (∃ t, exec (.bcBp ar w b alu) s = .next t ∧ s.sinkEffect t w alu (busA ar b s.bp s) (busBv b s) b s.bp)

/-! ### ALU functions -/

/-- R154 to R169: the sixteen arithmetic functions, each with the two terms whose sum its rule names: the result
is that sum with the carry input modulo 256, the carry whether that sum reaches 256, the zero flag whether the result is 0. -/
def Obligations.ArithmeticFunctions : Prop :=
  ∀ (ar : BusAR) (b : BusB) (c : BusC) (cin : Bool) (s : State) (x y : Byte),
    x = busA ar b (abus c s) s → y = busBv b s →
    ∀ e ∈ [
      (Instr.arith0 ar b c cin, x, 0), (Instr.arith1 ar b c cin, x ||| y, 0), (Instr.arith2 ar b c cin, x ||| ~~~y, 0),
      (Instr.arith3 ar b c cin, 0xFF, 0), (Instr.arith4 ar b c cin, x, x &&& ~~~y),
      (Instr.arith5 ar b c cin, x ||| y, x &&& ~~~y), (Instr.arith6 ar b c cin, x, ~~~y),
      (Instr.arith7 ar b c cin, x &&& ~~~y, 0xFF), (Instr.arith8 ar b c cin, x, x &&& y),
      (Instr.arith9 ar b c cin, x, y), (Instr.arith10 ar b c cin, x ||| ~~~y, x &&& y),
      (Instr.arith11 ar b c cin, x &&& y, 0xFF), (Instr.arith12 ar b c cin, x, x),
      (Instr.arith13 ar b c cin, x ||| y, x), (Instr.arith14 ar b c cin, x ||| ~~~y, x),
      (Instr.arith15 ar b c cin, x, 0xFF)],
    ∃ t, exec e.1 s = .next t ∧
      s.aluEffect t (BitVec.ofNat 8 (e.2.1.toNat + e.2.2.toNat + cin.toNat))
        (decide (256 ≤ e.2.1.toNat + e.2.2.toNat + cin.toNat))

/-- R170 to R185, R152: the sixteen logic functions, each the bitwise function its rule names, whatever the carry input;
the carry is still that of the sum of the rule's two terms `P` and `G` (D8). -/
def Obligations.LogicFunctions : Prop :=
  ∀ (ar : BusAR) (b : BusB) (c : BusC) (cin : Bool) (s : State) (x y : Byte),
    x = busA ar b (abus c s) s → y = busBv b s →
    ∀ e ∈ [
      (Instr.logic0 ar b c cin, ~~~x, x, 0), (Instr.logic1 ar b c cin, ~~~(x ||| y), x ||| y, 0),
      (Instr.logic2 ar b c cin, ~~~x &&& y, x ||| ~~~y, 0), (Instr.logic3 ar b c cin, 0, 0xFF, 0),
      (Instr.logic4 ar b c cin, ~~~(x &&& y), x, x &&& ~~~y), (Instr.logic5 ar b c cin, ~~~y, x ||| y, x &&& ~~~y),
      (Instr.logic6 ar b c cin, x ^^^ y, x ||| ~~~y, x &&& ~~~y), (Instr.logic7 ar b c cin, x &&& ~~~y, 0xFF, x &&& ~~~y),
      (Instr.logic8 ar b c cin, ~~~x ||| y, x, x &&& y), (Instr.logic9 ar b c cin, ~~~(x ^^^ y), x ||| y, x &&& y),
      (Instr.logic10 ar b c cin, y, x ||| ~~~y, x &&& y), (Instr.logic11 ar b c cin, x &&& y, 0xFF, x &&& y),
      (Instr.logic12 ar b c cin, 0xFF, x, x), (Instr.logic13 ar b c cin, x ||| ~~~y, x ||| y, x),
      (Instr.logic14 ar b c cin, x ||| y, x ||| ~~~y, x), (Instr.logic15 ar b c cin, x, 0xFF, x)],
    ∃ t, exec e.1 s = .next t ∧
      s.aluEffect t e.2.1 (decide (256 ≤ e.2.2.1.toNat + e.2.2.2.toNat + cin.toNat))

/-- R187: two slices with ripple carry are one 8-bit unit, on all operands, functions and carry inputs. -/
def Obligations.TwoSlicesAreOneUnit : Prop :=
  ∀ (a b : Byte) (alu : AluFields), alu8 a b alu = aluSlice a b alu

/-- R189: addition, subtraction, left shift, increment and decrement of the 8-bit ALU in integers: carry out of a
subtraction means no borrow. -/
def Obligations.AluArithmetic : Prop :=
  ∀ (a b : Byte) (cin : Bool),
    ((alu8 a b ⟨9, .arith, cin⟩).f.toNat = (a.toNat + b.toNat + cin.toNat) % 256 ∧
      (alu8 a b ⟨9, .arith, cin⟩).carry = decide (256 ≤ a.toNat + b.toNat + cin.toNat)) ∧
    ((alu8 a b ⟨6, .arith, true⟩).f = a - b ∧ (alu8 a b ⟨6, .arith, true⟩).carry = decide (b ≤ a) ∧
      (alu8 a b ⟨6, .arith, true⟩).zero = decide (a = b)) ∧
    ((alu8 a b ⟨6, .arith, false⟩).f = a - b - 1 ∧ (alu8 a b ⟨6, .arith, false⟩).carry = decide (b < a)) ∧
    ((alu8 a b ⟨12, .arith, cin⟩).f.toNat = (2 * a.toNat + cin.toNat) % 256 ∧
      (alu8 a b ⟨12, .arith, cin⟩).carry = a.getLsbD 7) ∧
    ((alu8 a b ⟨0, .arith, true⟩).f = a + 1 ∧ (alu8 a b ⟨0, .arith, true⟩).carry = decide (a = 255)) ∧
    ((alu8 a b ⟨15, .arith, false⟩).f = a - 1 ∧ (alu8 a b ⟨15, .arith, false⟩).carry = decide (a ≠ 0))

/-! ### The whole machine -/

/-- R26, R307: before a micro-cycle the first entry of the input schedule for its tick (D19; that the first one counts is
log entry 7) replaces `IN[3:0]`, `IN[6:5]` and `IN[7]`, and nothing else, `IN[4]` included; with no entry nothing changes.
R33, R37, R147: in a micro-cycle each place changes only if the control word's sink is one that the access matrix lists for
it; of `IN` only bit 4 and the collaborator's bits change. -/
def Obligations.AccessMatrix : Prop :=
  (∀ (s : State) (before : List InputEvent) (e : InputEvent) (later : List InputEvent),
    s.cfg.inputs = before ++ e :: later → (∀ f ∈ before, f.tick ≠ s.tick) → e.tick = s.tick →
    s.pollInput.regIN.extractLsb' 0 4 = e.data ∧
    s.pollInput.regIN.getLsbD 4 = s.regIN.getLsbD 4 ∧
    s.pollInput.regIN.extractLsb' 5 2 = e.ready ∧
    s.pollInput.regIN.extractLsb' 7 1 = e.done ∧
    s.pollInput = { s with regIN := s.pollInput.regIN }) ∧
  (∀ s : State, (∀ f ∈ s.cfg.inputs, f.tick ≠ s.tick) → s.pollInput = s) ∧
  ∀ (s t : State) (w : BusAW), s.mode = .tick → step s = .next t → w = (ControlWord.unpack s.controlWord).busAW →
    (∀ k, t.slot k ≠ s.slot k → w = .reg ∧ k = s.slotA) ∧
    (t.regD ≠ s.regD → w = .d) ∧
    (t.regT ≠ s.regT → w = .alu) ∧
    (∀ k, t.carryOf k ≠ s.carryOf k → w = .alu ∧ k = s.bank) ∧
    (∀ k, t.zeroOf k ≠ s.zeroOf k → w = .alu ∧ k = s.bank) ∧
    (t.regI ≠ s.regI → w = .adv) ∧
    (t.regOUT ≠ s.regOUT → w = .out) ∧
    (t.trace ≠ s.trace → w = .out) ∧
    (t.pc ≠ s.pc → w = .pc ∨ w = .pcInc ∨ w = .adv) ∧
    (t.sp ≠ s.sp → w = .sp ∨ w = .spInc ∨ w = .spDec) ∧
    (t.bp ≠ s.bp → w = .bp ∨ w = .bpInc ∨ w = .bpDec) ∧
    (t.ma ≠ s.ma → w = .ma) ∧
    (∀ a, t.memRead a ≠ s.memRead a → w = .mem ∧ a = abus (ControlWord.unpack s.controlWord).busC s) ∧
    (∀ k, k < 8 → k ≠ 4 → t.regIN.getLsbD k = s.pollInput.regIN.getLsbD k) ∧
    (t.tick = s.tick + 1) ∧
    (t.cycle = if w = .rst ∨ w = .adv then 0 else s.cycle + 1)

/-- R31, R32: the bank that `I[7]` does not select is neither read nor written in a micro-cycle: whatever it holds, the
micro-cycle is the same and leaves it as it is. -/
def Obligations.InactiveBankIsIsolated : Prop :=
  ∀ (s t : State) (c z : Bool), s.mode = .tick → step s = .next t →
    step (s.setFlags (!s.bank) c z) = .next (t.setFlags (!s.bank) c z)

/-- R27: `OUT` cannot be read back, nor what was put out before: states that differ in `OUT` and the output trace alone
step to states that differ in them alone, and put out the same bytes. -/
def Obligations.OutputIsWriteOnly : Prop :=
  ∀ (s t : State) (v : Byte) (earlier : List (Nat × Byte)), step s = .next t →
    ∃ u, step { s with regOUT := v, trace := earlier } = .next u ∧
      { u with regOUT := t.regOUT, trace := t.trace } = t ∧
      ∃ events, t.trace = s.trace ++ events ∧ u.trace = earlier ++ events

/-! ### Memory -/

/-- R51, R54: no step of either mode changes a byte of the bootstrap region. -/
def Obligations.BootstrapRegionNeverChanges : Prop :=
  ∀ (s t : State) (a : Addr), step s = .next t → a.toNat < s.cfg.bootSize → t.memRead a = s.memRead a

/-! ### Invariants of every step, of either mode -/

/-- Every step keeps the canonical form of `RAM`, with no cell of the bootstrap region listed (R36, R54; the form is the
model's, log entry 9). -/
def Obligations.StepKeepsMemoryCanonical : Prop :=
  ∀ s t : State, s.memoryWf → step s = .next t → t.memoryWf

/-- R29: `SP.hi & SP_BASE_HI` = `SP_BASE_HI` after every step that starts with it. -/
def Obligations.StepKeepsStackPinned : Prop :=
  ∀ s t : State, s.stackPinned → step s = .next t → t.stackPinned

/-- R308: `IN[4]` = `floor(tick / CLK_TOGGLE_PERIOD) mod 2` after every step that starts with it, for every period of at
least 1 and every input schedule. -/
def Obligations.StepKeepsClockInPhase : Prop :=
  ∀ s t : State, s.clockInPhase → step s = .next t → t.clockInPhase

/-- R306, R321: events are only appended, each numbered by its micro-cycle: the numbers rise strictly and never pass
`tick`. -/
def Obligations.StepKeepsTraceOrdered : Prop :=
  ∀ s t : State, s.traceOrdered → step s = .next t →
    t.traceOrdered ∧ ∃ events, t.trace = s.trace ++ events ∧ ∀ e ∈ events, s.tick < e.1

/-- R7, R36, R99: no step changes the parameters, the bootstrap image and the control store among them, or the host's mode,
and every step adds to `tick`. -/
def Obligations.StepKeepsParameters : Prop :=
  ∀ s t : State, step s = .next t → t.cfg = s.cfg ∧ t.mode = s.mode ∧ s.tick < t.tick

/-- The state after reset is sound, whatever the parameters with a period of at least 1. -/
def Obligations.ResetIsSound : Prop :=
  (∀ g : Config, 1 ≤ g.clkTogglePeriod → (State.resetWith g).sound) ∧ State.reset.sound

/-! ### Reset -/

/-- R40, R320, R322: reset clears the flags, puts `SP` at its base and zeroes memory, as the source says; every other value
is the spec's own choice of zero (D16); the parameters and the bootstrap image stay, the trace is empty. -/
def Obligations.ResetValues : Prop :=
  ∀ s : State,
    s.hostReset.cfg = s.cfg ∧ s.hostReset.mode = s.mode ∧
    (∀ k, s.hostReset.carryOf k = false ∧ s.hostReset.zeroOf k = false) ∧
    s.hostReset.sp.toNat = s.cfg.spBaseHi.toNat * 256 ∧
    (∀ a : Addr, s.hostReset.memRead a = if a.toNat < s.cfg.bootSize then s.memRead a else 0) ∧
    (∀ p, (∀ k, p ≠ .carry k ∧ p ≠ .zero k) → p ≠ .sp → s.hostReset.at p = 0) ∧
    s.hostReset.trace = []

/-- R323: with XREF-1 the first micro-cycle after reset is a fetch at address 0x0000, although no opcode was fetched. -/
def Obligations.FirstMicroCycleFetches : Prop :=
  ∀ g : Config, g.fill = .xref1 → g.rom0 = [] → g.rom1 = [] →
    ∃ t, step (State.resetWith g) = .next t ∧ t.regI = (State.resetWith g).memRead 0 ∧ t.pc = 1 ∧ t.cycle = 0 ∧
      t.tick = 1

/-! ### Instructions of XREF-1 -/

/-- R222, R260: `NOP` and the unassigned opcodes do nothing but fetch the next byte as an opcode, in one micro-cycle. -/
def Obligations.NoOperationInstructions : Prop :=
  ∀ (s : State) (op : Byte), ∀ i ∈ [Instr.nop, .unassigned02 op, .unassigned77, .unassignedAC op, .unassignedC0 op],
    ∃ t, exec i s = .next t ∧ s.instruction t 1 s.pc []

/-- R223, R105: `HLT` changes `tick`, the clock bit and `cycle` (to 0) and nothing else: no fetch, so it runs for ever. -/
def Obligations.HaltSpins : Prop :=
  ∀ s : State, ∃ t, exec .hlt s = .next t ∧ s.microCycle t true []

/-- R224, R225: `OUT r` writes `OUT` and raises one event in its first micro-cycle; `IN r` copies all 8 bits of `IN`. -/
def Obligations.InputAndOutput : Prop :=
  ∀ (r : Slot) (s : State),
    (∃ t, exec (.outR r) s = .next t ∧ t.regOUT = s.slot r ∧ t.trace = s.trace ++ [(s.tick + 1, s.slot r)] ∧
      s.endsInstruction t 2 s.pc ∧ s.keepsBut t (.out :: fetchPlaces) ∧ s.keepsMemory t) ∧
    (∃ t, exec (.inR r) s = .next t ∧ t.slot r = s.regIN ∧ s.instruction t 2 s.pc [.slot r])

/-- R226, R256 to R259: `MOVI` loads its immediate byte, `MOVBPL`, `MOVBPH`, `MOVSPL`, `MOVSPH` the half of a pair; no flag
is written. -/
def Obligations.ByteMoves : Prop :=
  ∀ (r : Slot) (imm : Byte) (s : State),
    (∃ t, exec (.movi r imm) s = .next t ∧ t.slot r = imm ∧ s.instruction t 3 (s.pc + 1) [.slot r]) ∧
    (∃ t, exec (.movbpl r) s = .next t ∧ (t.slot r).toNat = s.bp.toNat % 256 ∧ s.instruction t 2 s.pc [.slot r]) ∧
    (∃ t, exec (.movbph r) s = .next t ∧ (t.slot r).toNat = s.bp.toNat / 256 ∧ s.instruction t 2 s.pc [.slot r]) ∧
    (∃ t, exec (.movspl r) s = .next t ∧ (t.slot r).toNat = s.sp.toNat % 256 ∧ s.instruction t 2 s.pc [.slot r]) ∧
    (∃ t, exec (.movsph r) s = .next t ∧ (t.slot r).toNat = s.sp.toNat / 256 ∧ s.instruction t 2 s.pc [.slot r])

/-- R227 to R231, R243 to R245: the register instructions of the ALU: the result to the first register and to `T`, the
flags of bank 0 (`MOV`: of bank 1) as each rule says, `r1` = `r2` included. -/
def Obligations.RegisterArithmetic : Prop :=
  ∀ (r1 r2 : Slot) (s : State) (a b : Byte), a = s.slot r1 → b = s.slot r2 →
    (∃ t, exec (.add r1 r2) s = .next t ∧ t.slot r1 = a + b ∧
      s.aluInstruction t 3 s.pc false (a + b) (decide (256 ≤ a.toNat + b.toNat)) [.slot r1]) ∧
    (∃ t, exec (.sub r1 r2) s = .next t ∧ t.slot r1 = a - b ∧
      s.aluInstruction t 3 s.pc false (a - b) (decide (b ≤ a)) [.slot r1]) ∧
    (∃ t, exec (.and r1 r2) s = .next t ∧ t.slot r1 = a &&& b ∧
      s.aluInstruction t 3 s.pc false (a &&& b) (decide (a &&& b ≠ 0)) [.slot r1]) ∧
    (∃ t, exec (.or r1 r2) s = .next t ∧ t.slot r1 = a ||| b ∧
      s.aluInstruction t 3 s.pc false (a ||| b) (decide (256 ≤ (a ||| ~~~b).toNat + a.toNat)) [.slot r1]) ∧
    (∃ t, exec (.xor r1 r2) s = .next t ∧ t.slot r1 = a ^^^ b ∧
      s.aluInstruction t 3 s.pc false (a ^^^ b) (decide (b < a)) [.slot r1]) ∧
    (∃ t, exec (.inc r1) s = .next t ∧ t.slot r1 = a + 1 ∧
      s.aluInstruction t 3 s.pc false (a + 1) (decide (a = 0xFF)) [.slot r1]) ∧
    (∃ t, exec (.dec r1) s = .next t ∧ t.slot r1 = a - 1 ∧
      s.aluInstruction t 3 s.pc false (a - 1) (decide (a ≠ 0)) [.slot r1]) ∧
    (∃ t, exec (.mov r1 r2) s = .next t ∧ t.slot r1 = b ∧
      s.aluInstruction t 3 s.pc true b (decide (256 ≤ (a ||| ~~~b).toNat + (a &&& b).toNat)) [.slot r1])

/-- R232 to R235: the immediate instructions of the ALU: `D` keeps the immediate, `ADCI` adds the carry of bank 0 as it
stood before, `CMPI` writes no general register. -/
def Obligations.ImmediateArithmetic : Prop :=
  ∀ (r : Slot) (imm : Byte) (s : State) (a : Byte), a = s.slot r →
    (∃ t, exec (.addi r imm) s = .next t ∧ t.slot r = a + imm ∧ t.regD = imm ∧
      s.aluInstruction t 5 (s.pc + 1) false (a + imm) (decide (256 ≤ a.toNat + imm.toNat)) [.slot r, .d]) ∧
    (∃ t, exec (.subi r imm) s = .next t ∧ t.slot r = a - imm ∧ t.regD = imm ∧
      s.aluInstruction t 5 (s.pc + 1) false (a - imm) (decide (imm ≤ a)) [.slot r, .d]) ∧
    (∃ t, exec (.adci r imm) s = .next t ∧ (t.slot r).toNat = (a.toNat + imm.toNat + s.c0.toNat) % 256 ∧ t.regD = imm ∧
      s.aluInstruction t 5 (s.pc + 1) false (t.slot r) (decide (256 ≤ a.toNat + imm.toNat + s.c0.toNat))
        [.slot r, .d]) ∧
    (∃ t, exec (.cmpi r imm) s = .next t ∧ t.regD = imm ∧
      s.aluInstruction t 4 (s.pc + 1) false (a - imm) (decide (imm ≤ a)) [.d])

/-- R246, R254: `LD` reads the byte at its address, which `MA` keeps; `LDBP` the byte at `BP`. -/
def Obligations.Loads : Prop :=
  ∀ (r : Slot) (addr : Addr) (s : State),
    (∃ t, exec (.ld r addr) s = .next t ∧ t.slot r = s.memRead addr ∧ t.ma = addr ∧
      s.instruction t 6 (s.pc + 2) [.slot r, .ma]) ∧
    (∃ t, exec (.ldbp r) s = .next t ∧ t.slot r = s.memRead s.bp ∧ s.instruction t 2 s.pc [.slot r])

/-- R247, R255, R54: `ST` stores at its address, which `MA` keeps, `STBP` at `BP`; inside the bootstrap region nothing is
stored. -/
def Obligations.Stores : Prop :=
  ∀ (r : Slot) (addr : Addr) (s : State),
    (∃ t, exec (.st r addr) s = .next t ∧ s.storesByte t addr (s.slot r) ∧ t.ma = addr ∧
      s.endsInstruction t 6 (s.pc + 2) ∧ s.keepsBut t (.ma :: fetchPlaces) ∧ s.silent t) ∧
    (∃ t, exec (.stbp r) s = .next t ∧ s.storesByte t s.bp (s.slot r) ∧
      s.endsInstruction t 2 s.pc ∧ s.keepsBut t fetchPlaces ∧ s.silent t)

/-- R248, R249: `PUSH` decrements `SP` and stores at the new `SP`; `POP` loads at `SP` and increments it; both inside the
page range of `SP_BASE_HI`. -/
def Obligations.PushAndPop : Prop :=
  ∀ (r : Slot) (s : State),
    (∃ t, exec (.push r) s = .next t ∧ t.sp.toNat = withBase s.cfg.spBaseHi ((s.sp.toNat + 65535) % 65536) ∧
      s.storesByte t t.sp (s.slot r) ∧ s.endsInstruction t 3 s.pc ∧ s.keepsBut t (.sp :: fetchPlaces) ∧ s.silent t) ∧
    (∃ t, exec (.pop r) s = .next t ∧ t.slot r = s.memRead s.sp ∧
      t.sp.toNat = withBase s.cfg.spBaseHi ((s.sp.toNat + 1) % 65536) ∧ s.instruction t 3 s.pc [.slot r, .sp])

/-- R250 to R253: `MOVBP` and `MOVSP` load a pair, `SP` with its base ORed in; `INCBP` and `DECBP` count modulo 65536. -/
def Obligations.PointerMoves : Prop :=
  ∀ (addr : Addr) (s : State),
    (∃ t, exec (.movbp addr) s = .next t ∧ t.bp = addr ∧ s.instruction t 5 (s.pc + 2) [.bp]) ∧
    (∃ t, exec (.movsp addr) s = .next t ∧ t.sp.toNat = withBase s.cfg.spBaseHi addr.toNat ∧
      s.instruction t 5 (s.pc + 2) [.sp]) ∧
    (∃ t, exec .incbp s = .next t ∧ t.bp.toNat = (s.bp.toNat + 1) % 65536 ∧ s.instruction t 2 s.pc [.bp]) ∧
    (∃ t, exec .decbp s = .next t ∧ t.bp.toNat = (s.bp.toNat + 65535) % 65536 ∧ s.instruction t 2 s.pc [.bp])

/-- R236 to R240: a jump that is taken goes on at its address with `D` the low address byte, in 5 micro-cycles; one that is
not taken goes on behind its operand in 3 and leaves `D`. The conditions are the flags of bank 0. -/
def Obligations.Jumps : Prop :=
  ∀ (addr : Addr) (s : State),
    ∀ e ∈ [(Instr.jmp addr, true), (Instr.jc addr, s.c0), (Instr.jnc addr, !s.c0), (Instr.jz addr, s.z0),
      (Instr.jnz addr, !s.z0)],
    ∃ t, exec e.1 s = .next t ∧
      if e.2 then t.regD.toNat = addr.toNat % 256 ∧ s.instruction t 5 addr [.d] else s.instruction t 3 (s.pc + 2) []

/-- R241: `CALL` pushes the address of its high operand byte, high byte first, so the low byte lies at the lower address,
and goes on at the address whose high byte it reads after the pushes (in `addr` unless a push hit that byte). -/
def Obligations.CallPushesReturnAddress : Prop :=
  ∀ (addr : Addr) (s : State) (first second : Addr),
    first.toNat = withBase s.cfg.spBaseHi ((s.sp.toNat + 65535) % 65536) →
    second.toNat = withBase s.cfg.spBaseHi ((first.toNat + 65535) % 65536) →
    ∃ t, exec (.call addr) s = .next t ∧ t.sp = second ∧ t.regD.toNat = addr.toNat % 256 ∧
      (∀ x, t.memRead x =
        if x = second ∧ s.cfg.bootSize ≤ second.toNat then loByte (s.pc + 1)
        else if x = first ∧ s.cfg.bootSize ≤ first.toNat then hiByte (s.pc + 1)
        else s.memRead x) ∧
      s.endsInstruction t 9 (joinBytes (t.memRead (s.pc + 1)) (loByte addr)) ∧
      s.keepsBut t (.sp :: .d :: fetchPlaces) ∧ s.silent t

/-- R242: `RET` pops the low byte and then the high byte and goes on one past the address they make; `D` is overwritten with
the low byte. -/
def Obligations.ReturnPopsAddress : Prop :=
  ∀ (s : State) (second : Addr), second.toNat = withBase s.cfg.spBaseHi ((s.sp.toNat + 1) % 65536) →
    ∃ t, exec .ret s = .next t ∧ t.sp.toNat = withBase s.cfg.spBaseHi ((second.toNat + 1) % 65536) ∧
      t.regD = s.memRead s.sp ∧
      s.instruction t 7 (joinBytes (s.memRead second) (s.memRead s.sp) + 1) [.sp, .d]

/-- R241, R242: a `RET` that finds the stack as the matching `CALL` left it goes on at the instruction after the call and
has `SP` back, with the stack in RAM and `SP` pinned, for a base of 0xFF, or where the two pushes do not borrow from the
high byte of `SP`. -/
def Obligations.ReturnUndoesCall : Prop :=
  ∀ (addr : Addr) (s t u v : State), s.stackPinned → s.cfg.spBaseHi = 0xFF ∨ 2 ≤ s.sp.toNat % 256 →
    exec (.call addr) s = .next t → s.cfg.bootSize ≤ t.sp.toNat → s.cfg.bootSize ≤ (t.spFix (t.sp + 1)).toNat →
    u.cfg = t.cfg → u.sp = t.sp → u.memRead t.sp = t.memRead t.sp →
    u.memRead (t.spFix (t.sp + 1)) = t.memRead (t.spFix (t.sp + 1)) →
    exec .ret u = .next v →
    v.sp = s.sp ∧ v.regI = u.memRead (s.pc + 2) ∧ v.pc = s.pc + 3

/-! ### XREF-1 and its microprograms

The meaning of an opcode is its net effect; these statements say that it is what the control store makes of it, micro-
cycle by micro-cycle, for every value of the parameters but the control store. -/

/-- R222 to R226, R260: opcodes 0x00 to 0x0F. -/
def Obligations.XrefBasicMicroprograms : Prop :=
  ∀ s : State, s.atXrefBoundary = true → s.regI.toNat ≤ 0x0F →
    runToBoundary 16 s = exec (fetchOpcode s) s.pollInput

/-- R227 to R235, R243 to R245: opcodes 0x10 to 0x6F and 0x78 to 0x8F, the instructions of the ALU, whose microprograms
change the flags that select their own next step (R330). -/
def Obligations.XrefAluMicroprograms : Prop :=
  ∀ s : State, s.atXrefBoundary = true →
    (0x10 ≤ s.regI.toNat ∧ s.regI.toNat ≤ 0x6F) ∨ (0x78 ≤ s.regI.toNat ∧ s.regI.toNat ≤ 0x8F) →
    runToBoundary 16 s = exec (fetchOpcode s) s.pollInput

/-- R236 to R242, R260: opcodes 0x70 to 0x77, the transfers of control. -/
def Obligations.XrefFlowMicroprograms : Prop :=
  ∀ s : State, s.atXrefBoundary = true → 0x70 ≤ s.regI.toNat → s.regI.toNat ≤ 0x77 →
    runToBoundary 16 s = exec (fetchOpcode s) s.pollInput

/-- R246 to R260: opcodes 0x90 to 0xFF, memory, stack and base pointer, and the unassigned ones. -/
def Obligations.XrefMemoryMicroprograms : Prop :=
  ∀ s : State, s.atXrefBoundary = true → 0x90 ≤ s.regI.toNat →
    runToBoundary 16 s = exec (fetchOpcode s) s.pollInput

/-! ### The generator -/

/-- R203, R204, R206: a descriptor's entries are, for each of the `2^k` opcodes of its block, each step below the step
limit and each flag copy that its requirements admit, the entry at the index of R201 with the word of that step. R204, R207:
adding a descriptor to a store whose entries rise writes exactly these, and only when none of them is written already;
otherwise it fails with the opcode and the step of the first of them that is. (The descriptors that the generator turns away
for their arguments or their block are log entries 11 and 17.) -/
def Obligations.GeneratorNeverOverwrites : Prop :=
  (∀ d : Descriptor,
    d.width = 2 ^ (([d.args.first, d.args.second].filter (fun k => k = .ab ∨ k = .xy)).length +
      2 * ([d.args.first, d.args.second].filter (fun k => k = .abxy)).length) ∧
    (∀ op, op ∈ d.opcodes ↔ d.opcode.toNat ≤ op ∧ op < d.opcode.toNat + d.width) ∧
    (∀ (i : Nat) (w : CtrlBits), (i, w) ∈ d.targets ↔
      ∃ (op step : Nat) (c z : Bool), d.opcode.toNat ≤ op ∧ op < d.opcode.toNat + d.width ∧
        step < 16 ∧ d.steps[step]? = some w ∧
        (d.carry = .enable → c = true) ∧ (d.carry = .disable → c = false) ∧
        (d.zero = .enable → z = true) ∧ (d.zero = .disable → z = false) ∧
        i = op * 64 + step * 4 + c.toNat * 2 + z.toNat)) ∧
  ∀ (g : Generator) (d : Descriptor), g.written.Pairwise (fun e f => e.1 < f.1) →
    ¬((d.args.first = .ab ∨ d.args.first = .xy) ∧
      (d.args.second = .ab ∨ d.args.second = .xy ∨ d.args.second = .abxy)) →
    d.opcode.toNat + d.width ≤ 256 →
    (∃ before f later, d.targets = before ++ f :: later ∧ (∃ e ∈ g.written, e.1 = f.1) ∧
      (∀ e ∈ g.written, ∀ f' ∈ before, e.1 ≠ f'.1) ∧
      g.addInstruction d = .error (.duplicateOpcode (f.1 / 64) (f.1 / 4 % 16))) ∨
    ((∀ e ∈ g.written, ∀ f ∈ d.targets, e.1 ≠ f.1) ∧
      ∃ h, g.addInstruction d = .ok h ∧ h.written.Pairwise (fun e f => e.1 < f.1) ∧
        (∀ e, e ∈ h.written ↔ e ∈ g.written ∨ e ∈ d.targets) ∧
        (∀ op, h.isOpcodeAssigned op = true ↔ g.isOpcodeAssigned op = true ∨ op ∈ d.opcodes))

/-- R208, R209: in a finalized store every entry a descriptor wrote holds its word and every other entry the no-op word. -/
def Obligations.FinalizedStoreHasNoHole : Prop :=
  ∀ (g : Generator) (cfg : Config) (a : RomAddr), g.written.Pairwise (fun e f => e.1 < f.1) →
    cfg.fill = .noop → (cfg.rom0, cfg.rom1) = g.finalize →
    (∀ w, (a.toNat, w) ∈ g.written → romWord cfg a = w) ∧
    ((∀ w, (a.toNat, w) ∉ g.written) → romWord cfg a = 0x007C)
end

