-- ==== Sys2Proof/Laws/Generator.lean ====
section
/-! SUPPORT. What the shared operations of the generator do: the operand bytes of a descriptor (R82, R83), and which
opcodes and entries its block has (R201, R203). -/

namespace Sys2Proof.Machine

/-! ### Operand bytes -/

/-- The operand bytes of a value are as many as its kind has (R82). -/
theorem ArgValue.bytes_length {k : ArgKind} {v : ArgValue} (h : k.takes v = true) : v.bytes.length = k.bytes := by
  cases k <;> cases v <;> simp_all [ArgKind.takes, ArgValue.bytes, ArgKind.bytes]

/-- What `operandBytes` does at an argument that is declared: the value's own bytes, then those of the rest. -/
theorem operandBytes_cons {k : ArgKind} (hk : k ≠ .none) (ks : List ArgKind) (v : ArgValue) (vs : List ArgValue) :
    operandBytes (k :: ks) (v :: vs) = if k.takes v then (operandBytes ks vs).map (v.bytes ++ ·) else none := by
  cases k <;> simp_all [operandBytes]

/-- The operand bytes are as many as the kinds have, register kinds having none (R83). -/
theorem operandBytes_length (ks : List ArgKind) (vs : List ArgValue) (bytes : List Byte)
    (h : operandBytes ks vs = some bytes) : bytes.length = (ks.map ArgKind.bytes).sum := by
  induction ks generalizing vs bytes with
  | nil => cases vs <;> simp_all [operandBytes]
  | cons k ks ih =>
    by_cases hk : k = .none
    · subst hk
      simp only [operandBytes] at h
      simpa [ArgKind.bytes] using ih vs bytes h
    · cases vs with
      | nil => cases k <;> simp_all [operandBytes]
      | cons v vs =>
        rw [operandBytes_cons hk] at h
        split at h
        · obtain ⟨rest, hrest, rfl⟩ := Option.map_eq_some_iff.mp h
          simp [ih vs rest hrest, ArgValue.bytes_length ‹_›]
        · cases h

/-- Two operands lie in declared order, an address low byte first, right behind the opcode (R82). -/
theorem operandBytes_imm_addr (v : Byte) (a : Addr) :
    operandBytes [.imm, .addr, .none] [.imm v, .addr a] = some [v, loByte a, hiByte a] ∧
    operandBytes [.addr, .imm, .none] [.addr a, .imm v] = some [loByte a, hiByte a, v] := ⟨rfl, rfl⟩

/-- Reading operands takes what it needs from the front: bytes after it are left over as they are. -/
theorem readOperands_append (ks : List ArgKind) (slots : List Slot) (bytes left rest : List Byte) (vs : List ArgValue)
    (h : readOperands ks slots bytes = some (vs, left)) :
    readOperands ks slots (bytes ++ rest) = some (vs, left ++ rest) := by
  induction ks generalizing slots bytes vs with
  | nil => simp_all [readOperands]
  | cons k ks ih =>
    cases k
    case none => exact ih slots bytes vs h
    case imm =>
      cases bytes with
      | nil => cases slots <;> simp [readOperands, ArgKind.takes] at h
      | cons b bytes =>
        simp only [readOperands, Option.map_eq_some_iff] at h
        obtain ⟨⟨us, l⟩, hr, he⟩ := h
        cases he
        simp [readOperands, ih slots bytes us hr]
    case addr =>
      match bytes, h with
      | [], h => cases slots <;> simp [readOperands, ArgKind.takes] at h
      | [b], h => cases slots <;> simp [readOperands, ArgKind.takes] at h
      | lo :: hi :: bytes, h =>
        simp only [readOperands, Option.map_eq_some_iff] at h
        obtain ⟨⟨us, l⟩, hr, he⟩ := h
        cases he
        simp [readOperands, ih slots bytes us hr]
    all_goals
      cases slots with
      | nil => cases h
      | cons slot slots =>
        simp only [readOperands] at h ⊢
        split at h
        · obtain ⟨⟨us, l⟩, hr, he⟩ := Option.map_eq_some_iff.mp h
          cases he
          simp [ih slots bytes us hr, *]
        · cases h

/-! ### Instructions of a descriptor -/

/-- The kind that is not encoded has no operand bytes either (R82). -/
theorem ArgKinds.encoded_bytes (ks : ArgKinds) :
    (ks.toList.map ArgKind.bytes).sum = (ks.encoded.map ArgKind.bytes).sum := by
  obtain ⟨a, b, c⟩ := ks
  cases c <;> rfl

/-- What `encode` answers: the opcode of the values, in the block, and the operand bytes in declared order, which read
back as the values. -/
theorem Descriptor.encode_spec (d : Descriptor) (vs : List ArgValue) (word : List Byte)
    (h : d.encode vs = some word) :
    ∃ bytes, word = d.opcodeOf vs :: bytes ∧ operandBytes d.args.encoded vs = some bytes ∧
      (d.opcodeOf vs).toNat ∈ d.opcodes ∧
      readOperands d.args.encoded (slotFields (d.opcodeOf vs)) bytes = some (vs, []) := by
  unfold Descriptor.encode at h
  split at h
  · split at h
    · exact ⟨_, (Option.some.inj h).symm, ‹_›, ‹_ ∧ _›⟩
    · cases h
  · cases h

/-- An encoded instruction has the length of its descriptor (R83). -/
theorem Descriptor.encode_length (d : Descriptor) (vs : List ArgValue) (word : List Byte)
    (h : d.encode vs = some word) : word.length = d.length := by
  obtain ⟨bytes, rfl, hb, -⟩ := d.encode_spec vs word h
  rw [List.length_cons, operandBytes_length _ _ _ hb, Descriptor.length, ArgKinds.encoded_bytes]
  omega

/-- An encoded instruction of a descriptor is read back, and the bytes after it are left (R81, R82). -/
theorem Descriptor.decode_encode (d : Descriptor) (vs : List ArgValue) (word rest : List Byte)
    (h : d.encode vs = some word) : d.decode (word ++ rest) = some (vs, rest) := by
  obtain ⟨bytes, rfl, -, hop, hread⟩ := d.encode_spec vs word h
  simpa [Descriptor.decode, hop] using readOperands_append _ _ _ _ rest _ hread

/-! ### Blocks -/

/-- The opcodes of a block are the `width` numbers from its base (R203). -/
theorem Descriptor.mem_opcodes (d : Descriptor) (op : Nat) :
    op ∈ d.opcodes ↔ d.opcode.toNat ≤ op ∧ op < d.opcode.toNat + d.width := by
  simp only [Descriptor.opcodes, List.mem_map, List.mem_range]
  exact ⟨fun ⟨i, hi, he⟩ => by omega, fun h => ⟨op - d.opcode.toNat, by omega, by omega⟩⟩

/-- What `addInstruction` answers with a generator: the arguments and the block are admitted, and the entries are those of
the merge (R204). -/
theorem Generator.addInstruction_ok {g h : Generator} {d : Descriptor} (hadd : g.addInstruction d = .ok h) :
    d.narrowThenRegister = false ∧ d.pastLastOpcode = false ∧ h.assigned = g.assigned ++ d.opcodes ∧
    mergeEntries (g.written.length + d.targets.length + 1) g.written d.targets = .ok h.written := by
  unfold Generator.addInstruction at hadd
  split at hadd
  · cases hadd
  · split at hadd
    · cases hadd
    · split at hadd
      · cases hadd; simp_all
      · cases hadd

/-- Every opcode of a block that the generator accepts is one of the 256 (R201). -/
theorem Generator.addInstruction_opcodes {g h : Generator} {d : Descriptor} (hadd : g.addInstruction d = .ok h)
    (op : Nat) (hop : op ∈ d.opcodes) : op ≤ 255 := by
  have hw := (Generator.addInstruction_ok hadd).2.1
  have hm := (d.mem_opcodes op).mp hop
  simp [Descriptor.pastLastOpcode] at hw
  omega

end Sys2Proof.Machine
end

