-- ==== Sys2Proof/Laws/Memory.lean ====
section
/-! SUPPORT. The laws of a sparse byte array: what a write does to every read, and that it keeps the canonical form. -/

namespace Sys2Proof.Machine

variable {blank : Nat → Byte}

/-! ### Reads after writes -/

theorem Memory.read_insert (m : List Host.Cell) (a b : Nat) (v : Byte) :
    Memory.read blank (Memory.insert m a v) b = if b = a then v else Memory.read blank m b := by
  induction m with
  | nil => simp [Memory.insert, Memory.read]
  | cons c rest ih =>
    obtain ⟨k, w⟩ := c
    unfold Memory.insert
    split
    · simp [Memory.read]
    · split
      · subst_vars; simp [Memory.read]; split <;> rfl
      · simp only [Memory.read, ih]; split
        · split
          · omega
          · rfl
        · rfl

theorem Memory.read_filter_ne (m : List Host.Cell) (a b : Nat) :
    Memory.read blank (m.filter (fun c => decide (c.1 ≠ a))) b = if b = a then blank a else Memory.read blank m b := by
  induction m with
  | nil => by_cases h : b = a <;> simp [Memory.read, h]
  | cons c rest ih =>
    obtain ⟨k, w⟩ := c
    by_cases hk : k = a
    · rw [List.filter_cons_of_neg (by simp [hk]), ih]
      by_cases hb : b = a <;> simp [Memory.read, hk, hb]
    · rw [List.filter_cons_of_pos (by simp [hk])]
      simp only [Memory.read, ih]
      by_cases hb : b = a
      · have : ¬ b = k := by omega
        simp [hb, Ne.symm hk]
      · simp [hb]

/-- A read after a write: the value written at its address, the old value at every other. -/
theorem Memory.read_write (m : List Host.Cell) (a b : Nat) (v : Byte) :
    Memory.read blank (Memory.write blank m a v) b = if b = a then v else Memory.read blank m b := by
  unfold Memory.write
  split
  · rename_i h
    rw [Memory.read_filter_ne, h]
  · exact Memory.read_insert m a b v

/-! ### The canonical form -/

theorem Memory.rising_mono {lo lo' : Nat} {m : List Host.Cell} (h : Memory.rising lo m = true) (hle : lo' ≤ lo) :
    Memory.rising lo' m = true := by
  cases m with
  | nil => rfl
  | cons c rest => simp only [Memory.rising, Bool.and_eq_true, decide_eq_true_eq] at h ⊢; exact ⟨by omega, h.2⟩

theorem Memory.rising_insert {m : List Host.Cell} {lo a : Nat} {v : Byte} (h : Memory.rising lo m = true)
    (ha : lo ≤ a) : Memory.rising lo (Memory.insert m a v) = true := by
  induction m generalizing lo with
  | nil => simp [Memory.insert, Memory.rising, ha]
  | cons c rest ih =>
    obtain ⟨k, w⟩ := c
    simp only [Memory.rising, Bool.and_eq_true, decide_eq_true_eq] at h
    unfold Memory.insert
    split
    · simp only [Memory.rising, Bool.and_eq_true, decide_eq_true_eq]; exact ⟨ha, by omega, h.2⟩
    · split
      · subst_vars; simp [Memory.rising, h]
      · simp only [Memory.rising, Bool.and_eq_true, decide_eq_true_eq]; exact ⟨h.1, ih h.2 (by omega)⟩

theorem Memory.rising_filter {m : List Host.Cell} {lo : Nat} (p : Host.Cell → Bool) (h : Memory.rising lo m = true) :
    Memory.rising lo (m.filter p) = true := by
  induction m generalizing lo with
  | nil => rfl
  | cons c rest ih =>
    obtain ⟨k, w⟩ := c
    simp only [Memory.rising, Bool.and_eq_true, decide_eq_true_eq] at h
    by_cases hp : p (k, w) = true
    · rw [List.filter_cons_of_pos hp]
      simp only [Memory.rising, Bool.and_eq_true, decide_eq_true_eq]; exact ⟨h.1, ih h.2⟩
    · rw [List.filter_cons_of_neg hp]; exact Memory.rising_mono (ih h.2) (by omega)

theorem Memory.mem_insert {m : List Host.Cell} {a : Nat} {v : Byte} {c : Host.Cell} (h : c ∈ Memory.insert m a v) :
    c = (a, v) ∨ c ∈ m := by
  induction m with
  | nil => simpa [Memory.insert] using h
  | cons d rest ih =>
    obtain ⟨k, w⟩ := d
    unfold Memory.insert at h
    split at h
    · simpa using h
    · split at h
      · rcases List.mem_cons.mp h with h | h
        · exact .inl h
        · exact .inr (List.mem_cons_of_mem _ h)
      · rcases List.mem_cons.mp h with h | h
        · exact .inr (by simp [h])
        · rcases ih h with h | h
          · exact .inl h
          · exact .inr (List.mem_cons_of_mem _ h)

/-- A property of all cells of an array that the new cell has too is kept by a write. -/
theorem Memory.all_write {m : List Host.Cell} {a : Nat} {v : Byte} {p : Host.Cell → Bool} (h : m.all p = true)
    (hv : p (a, v) = true) : (Memory.write blank m a v).all p = true := by
  rw [List.all_eq_true] at h ⊢
  intro c hc
  unfold Memory.write at hc
  split at hc
  · exact h c (List.mem_of_mem_filter hc)
  · rcases Memory.mem_insert hc with rfl | hc
    · exact hv
    · exact h c hc

/-- A write at an address of the array keeps the canonical form. -/
theorem Memory.wf_write {m : List Host.Cell} {size a : Nat} {v : Byte} (h : Memory.wf blank size m = true)
    (ha : a < size) : Memory.wf blank size (Memory.write blank m a v) = true := by
  simp only [Memory.wf, Bool.and_eq_true] at h ⊢
  refine ⟨?_, ?_⟩
  · unfold Memory.write
    split
    · exact Memory.rising_filter _ h.1
    · exact Memory.rising_insert h.1 (Nat.zero_le _)
  · by_cases hv : v = blank a
    · rw [List.all_eq_true] at *
      intro c hc
      simp only [Memory.write, hv, if_true] at hc
      exact h.2 c (List.mem_of_mem_filter hc)
    · exact Memory.all_write h.2 (by simp [ha, hv])

end Sys2Proof.Machine
end

