-- ==== Sys2Proof/Laws/State.lean ====
section
/-! SUPPORT. What each shared operation leaves alone: one lemma per field per operation, so that no later proof unfolds a
record update. What the operations write is in Sys2Proof/Laws/Ops.lean. -/

namespace Sys2Proof.Machine

/-! ### `setSlot` writes one general register -/

@[simp] theorem State.setSlot_regD (s : State) (k : Slot) (v : Byte) : (s.setSlot k v).regD = s.regD := by cases k <;> rfl
@[simp] theorem State.setSlot_regT (s : State) (k : Slot) (v : Byte) : (s.setSlot k v).regT = s.regT := by cases k <;> rfl
@[simp] theorem State.setSlot_regI (s : State) (k : Slot) (v : Byte) : (s.setSlot k v).regI = s.regI := by cases k <;> rfl
@[simp] theorem State.setSlot_regIN (s : State) (k : Slot) (v : Byte) : (s.setSlot k v).regIN = s.regIN := by cases k <;> rfl
@[simp] theorem State.setSlot_regOUT (s : State) (k : Slot) (v : Byte) : (s.setSlot k v).regOUT = s.regOUT := by cases k <;> rfl
@[simp] theorem State.setSlot_pc (s : State) (k : Slot) (v : Byte) : (s.setSlot k v).pc = s.pc := by cases k <;> rfl
@[simp] theorem State.setSlot_sp (s : State) (k : Slot) (v : Byte) : (s.setSlot k v).sp = s.sp := by cases k <;> rfl
@[simp] theorem State.setSlot_bp (s : State) (k : Slot) (v : Byte) : (s.setSlot k v).bp = s.bp := by cases k <;> rfl
@[simp] theorem State.setSlot_ma (s : State) (k : Slot) (v : Byte) : (s.setSlot k v).ma = s.ma := by cases k <;> rfl
@[simp] theorem State.setSlot_c0 (s : State) (k : Slot) (v : Byte) : (s.setSlot k v).c0 = s.c0 := by cases k <;> rfl
@[simp] theorem State.setSlot_z0 (s : State) (k : Slot) (v : Byte) : (s.setSlot k v).z0 = s.z0 := by cases k <;> rfl
@[simp] theorem State.setSlot_c1 (s : State) (k : Slot) (v : Byte) : (s.setSlot k v).c1 = s.c1 := by cases k <;> rfl
@[simp] theorem State.setSlot_z1 (s : State) (k : Slot) (v : Byte) : (s.setSlot k v).z1 = s.z1 := by cases k <;> rfl
@[simp] theorem State.setSlot_cycle (s : State) (k : Slot) (v : Byte) : (s.setSlot k v).cycle = s.cycle := by cases k <;> rfl
@[simp] theorem State.setSlot_tick (s : State) (k : Slot) (v : Byte) : (s.setSlot k v).tick = s.tick := by cases k <;> rfl
@[simp] theorem State.setSlot_ram (s : State) (k : Slot) (v : Byte) : (s.setSlot k v).ram = s.ram := by cases k <;> rfl
@[simp] theorem State.setSlot_trace (s : State) (k : Slot) (v : Byte) : (s.setSlot k v).trace = s.trace := by cases k <;> rfl
@[simp] theorem State.setSlot_cfg (s : State) (k : Slot) (v : Byte) : (s.setSlot k v).cfg = s.cfg := by cases k <;> rfl
@[simp] theorem State.setSlot_mode (s : State) (k : Slot) (v : Byte) : (s.setSlot k v).mode = s.mode := by cases k <;> rfl

/-! ### `setFlags` writes the two latches of a bank -/

@[simp] theorem State.setFlags_regA (s : State) (bank c z : Bool) : (s.setFlags bank c z).regA = s.regA := by cases bank <;> rfl
@[simp] theorem State.setFlags_regB (s : State) (bank c z : Bool) : (s.setFlags bank c z).regB = s.regB := by cases bank <;> rfl
@[simp] theorem State.setFlags_regX (s : State) (bank c z : Bool) : (s.setFlags bank c z).regX = s.regX := by cases bank <;> rfl
@[simp] theorem State.setFlags_regY (s : State) (bank c z : Bool) : (s.setFlags bank c z).regY = s.regY := by cases bank <;> rfl
@[simp] theorem State.setFlags_regD (s : State) (bank c z : Bool) : (s.setFlags bank c z).regD = s.regD := by cases bank <;> rfl
@[simp] theorem State.setFlags_regT (s : State) (bank c z : Bool) : (s.setFlags bank c z).regT = s.regT := by cases bank <;> rfl
@[simp] theorem State.setFlags_regI (s : State) (bank c z : Bool) : (s.setFlags bank c z).regI = s.regI := by cases bank <;> rfl
@[simp] theorem State.setFlags_regIN (s : State) (bank c z : Bool) : (s.setFlags bank c z).regIN = s.regIN := by cases bank <;> rfl
@[simp] theorem State.setFlags_regOUT (s : State) (bank c z : Bool) : (s.setFlags bank c z).regOUT = s.regOUT := by cases bank <;> rfl
@[simp] theorem State.setFlags_pc (s : State) (bank c z : Bool) : (s.setFlags bank c z).pc = s.pc := by cases bank <;> rfl
@[simp] theorem State.setFlags_sp (s : State) (bank c z : Bool) : (s.setFlags bank c z).sp = s.sp := by cases bank <;> rfl
@[simp] theorem State.setFlags_bp (s : State) (bank c z : Bool) : (s.setFlags bank c z).bp = s.bp := by cases bank <;> rfl
@[simp] theorem State.setFlags_ma (s : State) (bank c z : Bool) : (s.setFlags bank c z).ma = s.ma := by cases bank <;> rfl
@[simp] theorem State.setFlags_cycle (s : State) (bank c z : Bool) : (s.setFlags bank c z).cycle = s.cycle := by cases bank <;> rfl
@[simp] theorem State.setFlags_tick (s : State) (bank c z : Bool) : (s.setFlags bank c z).tick = s.tick := by cases bank <;> rfl
@[simp] theorem State.setFlags_ram (s : State) (bank c z : Bool) : (s.setFlags bank c z).ram = s.ram := by cases bank <;> rfl
@[simp] theorem State.setFlags_trace (s : State) (bank c z : Bool) : (s.setFlags bank c z).trace = s.trace := by cases bank <;> rfl
@[simp] theorem State.setFlags_cfg (s : State) (bank c z : Bool) : (s.setFlags bank c z).cfg = s.cfg := by cases bank <;> rfl
@[simp] theorem State.setFlags_mode (s : State) (bank c z : Bool) : (s.setFlags bank c z).mode = s.mode := by cases bank <;> rfl

/-! ### `latchAlu` writes `T` and the two latches of a bank -/

@[simp] theorem State.latchAlu_regA (s : State) (bank : Bool) (r : AluOut 8) : (s.latchAlu bank r).regA = s.regA := by cases bank <;> rfl
@[simp] theorem State.latchAlu_regB (s : State) (bank : Bool) (r : AluOut 8) : (s.latchAlu bank r).regB = s.regB := by cases bank <;> rfl
@[simp] theorem State.latchAlu_regX (s : State) (bank : Bool) (r : AluOut 8) : (s.latchAlu bank r).regX = s.regX := by cases bank <;> rfl
@[simp] theorem State.latchAlu_regY (s : State) (bank : Bool) (r : AluOut 8) : (s.latchAlu bank r).regY = s.regY := by cases bank <;> rfl
@[simp] theorem State.latchAlu_regD (s : State) (bank : Bool) (r : AluOut 8) : (s.latchAlu bank r).regD = s.regD := by cases bank <;> rfl
@[simp] theorem State.latchAlu_regI (s : State) (bank : Bool) (r : AluOut 8) : (s.latchAlu bank r).regI = s.regI := by cases bank <;> rfl
@[simp] theorem State.latchAlu_regIN (s : State) (bank : Bool) (r : AluOut 8) : (s.latchAlu bank r).regIN = s.regIN := by cases bank <;> rfl
@[simp] theorem State.latchAlu_regOUT (s : State) (bank : Bool) (r : AluOut 8) : (s.latchAlu bank r).regOUT = s.regOUT := by cases bank <;> rfl
@[simp] theorem State.latchAlu_pc (s : State) (bank : Bool) (r : AluOut 8) : (s.latchAlu bank r).pc = s.pc := by cases bank <;> rfl
@[simp] theorem State.latchAlu_sp (s : State) (bank : Bool) (r : AluOut 8) : (s.latchAlu bank r).sp = s.sp := by cases bank <;> rfl
@[simp] theorem State.latchAlu_bp (s : State) (bank : Bool) (r : AluOut 8) : (s.latchAlu bank r).bp = s.bp := by cases bank <;> rfl
@[simp] theorem State.latchAlu_ma (s : State) (bank : Bool) (r : AluOut 8) : (s.latchAlu bank r).ma = s.ma := by cases bank <;> rfl
@[simp] theorem State.latchAlu_cycle (s : State) (bank : Bool) (r : AluOut 8) : (s.latchAlu bank r).cycle = s.cycle := by cases bank <;> rfl
@[simp] theorem State.latchAlu_tick (s : State) (bank : Bool) (r : AluOut 8) : (s.latchAlu bank r).tick = s.tick := by cases bank <;> rfl
@[simp] theorem State.latchAlu_ram (s : State) (bank : Bool) (r : AluOut 8) : (s.latchAlu bank r).ram = s.ram := by cases bank <;> rfl
@[simp] theorem State.latchAlu_trace (s : State) (bank : Bool) (r : AluOut 8) : (s.latchAlu bank r).trace = s.trace := by cases bank <;> rfl
@[simp] theorem State.latchAlu_cfg (s : State) (bank : Bool) (r : AluOut 8) : (s.latchAlu bank r).cfg = s.cfg := by cases bank <;> rfl
@[simp] theorem State.latchAlu_mode (s : State) (bank : Bool) (r : AluOut 8) : (s.latchAlu bank r).mode = s.mode := by cases bank <;> rfl

/-! ### `memWrite` writes memory -/

@[simp] theorem State.memWrite_regA (s : State) (a : Addr) (v : Byte) : (s.memWrite a v).regA = s.regA := by
  unfold State.memWrite; split <;> rfl
@[simp] theorem State.memWrite_regB (s : State) (a : Addr) (v : Byte) : (s.memWrite a v).regB = s.regB := by
  unfold State.memWrite; split <;> rfl
@[simp] theorem State.memWrite_regX (s : State) (a : Addr) (v : Byte) : (s.memWrite a v).regX = s.regX := by
  unfold State.memWrite; split <;> rfl
@[simp] theorem State.memWrite_regY (s : State) (a : Addr) (v : Byte) : (s.memWrite a v).regY = s.regY := by
  unfold State.memWrite; split <;> rfl
@[simp] theorem State.memWrite_regD (s : State) (a : Addr) (v : Byte) : (s.memWrite a v).regD = s.regD := by
  unfold State.memWrite; split <;> rfl
@[simp] theorem State.memWrite_regT (s : State) (a : Addr) (v : Byte) : (s.memWrite a v).regT = s.regT := by
  unfold State.memWrite; split <;> rfl
@[simp] theorem State.memWrite_regI (s : State) (a : Addr) (v : Byte) : (s.memWrite a v).regI = s.regI := by
  unfold State.memWrite; split <;> rfl
@[simp] theorem State.memWrite_regIN (s : State) (a : Addr) (v : Byte) : (s.memWrite a v).regIN = s.regIN := by
  unfold State.memWrite; split <;> rfl
@[simp] theorem State.memWrite_regOUT (s : State) (a : Addr) (v : Byte) : (s.memWrite a v).regOUT = s.regOUT := by
  unfold State.memWrite; split <;> rfl
@[simp] theorem State.memWrite_pc (s : State) (a : Addr) (v : Byte) : (s.memWrite a v).pc = s.pc := by
  unfold State.memWrite; split <;> rfl
@[simp] theorem State.memWrite_sp (s : State) (a : Addr) (v : Byte) : (s.memWrite a v).sp = s.sp := by
  unfold State.memWrite; split <;> rfl
@[simp] theorem State.memWrite_bp (s : State) (a : Addr) (v : Byte) : (s.memWrite a v).bp = s.bp := by
  unfold State.memWrite; split <;> rfl
@[simp] theorem State.memWrite_ma (s : State) (a : Addr) (v : Byte) : (s.memWrite a v).ma = s.ma := by
  unfold State.memWrite; split <;> rfl
@[simp] theorem State.memWrite_c0 (s : State) (a : Addr) (v : Byte) : (s.memWrite a v).c0 = s.c0 := by
  unfold State.memWrite; split <;> rfl
@[simp] theorem State.memWrite_z0 (s : State) (a : Addr) (v : Byte) : (s.memWrite a v).z0 = s.z0 := by
  unfold State.memWrite; split <;> rfl
@[simp] theorem State.memWrite_c1 (s : State) (a : Addr) (v : Byte) : (s.memWrite a v).c1 = s.c1 := by
  unfold State.memWrite; split <;> rfl
@[simp] theorem State.memWrite_z1 (s : State) (a : Addr) (v : Byte) : (s.memWrite a v).z1 = s.z1 := by
  unfold State.memWrite; split <;> rfl
@[simp] theorem State.memWrite_cycle (s : State) (a : Addr) (v : Byte) : (s.memWrite a v).cycle = s.cycle := by
  unfold State.memWrite; split <;> rfl
@[simp] theorem State.memWrite_tick (s : State) (a : Addr) (v : Byte) : (s.memWrite a v).tick = s.tick := by
  unfold State.memWrite; split <;> rfl
@[simp] theorem State.memWrite_trace (s : State) (a : Addr) (v : Byte) : (s.memWrite a v).trace = s.trace := by
  unfold State.memWrite; split <;> rfl
@[simp] theorem State.memWrite_cfg (s : State) (a : Addr) (v : Byte) : (s.memWrite a v).cfg = s.cfg := by
  unfold State.memWrite; split <;> rfl
@[simp] theorem State.memWrite_mode (s : State) (a : Addr) (v : Byte) : (s.memWrite a v).mode = s.mode := by
  unfold State.memWrite; split <;> rfl

/-! ### `emit` writes the trace -/

@[simp] theorem State.emit_regA (s : State) (v : Byte) : (s.emit v).regA = s.regA := rfl
@[simp] theorem State.emit_regB (s : State) (v : Byte) : (s.emit v).regB = s.regB := rfl
@[simp] theorem State.emit_regX (s : State) (v : Byte) : (s.emit v).regX = s.regX := rfl
@[simp] theorem State.emit_regY (s : State) (v : Byte) : (s.emit v).regY = s.regY := rfl
@[simp] theorem State.emit_regD (s : State) (v : Byte) : (s.emit v).regD = s.regD := rfl
@[simp] theorem State.emit_regT (s : State) (v : Byte) : (s.emit v).regT = s.regT := rfl
@[simp] theorem State.emit_regI (s : State) (v : Byte) : (s.emit v).regI = s.regI := rfl
@[simp] theorem State.emit_regIN (s : State) (v : Byte) : (s.emit v).regIN = s.regIN := rfl
@[simp] theorem State.emit_regOUT (s : State) (v : Byte) : (s.emit v).regOUT = s.regOUT := rfl
@[simp] theorem State.emit_pc (s : State) (v : Byte) : (s.emit v).pc = s.pc := rfl
@[simp] theorem State.emit_sp (s : State) (v : Byte) : (s.emit v).sp = s.sp := rfl
@[simp] theorem State.emit_bp (s : State) (v : Byte) : (s.emit v).bp = s.bp := rfl
@[simp] theorem State.emit_ma (s : State) (v : Byte) : (s.emit v).ma = s.ma := rfl
@[simp] theorem State.emit_c0 (s : State) (v : Byte) : (s.emit v).c0 = s.c0 := rfl
@[simp] theorem State.emit_z0 (s : State) (v : Byte) : (s.emit v).z0 = s.z0 := rfl
@[simp] theorem State.emit_c1 (s : State) (v : Byte) : (s.emit v).c1 = s.c1 := rfl
@[simp] theorem State.emit_z1 (s : State) (v : Byte) : (s.emit v).z1 = s.z1 := rfl
@[simp] theorem State.emit_cycle (s : State) (v : Byte) : (s.emit v).cycle = s.cycle := rfl
@[simp] theorem State.emit_tick (s : State) (v : Byte) : (s.emit v).tick = s.tick := rfl
@[simp] theorem State.emit_ram (s : State) (v : Byte) : (s.emit v).ram = s.ram := rfl
@[simp] theorem State.emit_cfg (s : State) (v : Byte) : (s.emit v).cfg = s.cfg := rfl
@[simp] theorem State.emit_mode (s : State) (v : Byte) : (s.emit v).mode = s.mode := rfl

/-! ### `endTick` writes `tick` and `IN` -/

@[simp] theorem State.endTick_regA (s : State) : (s.endTick).regA = s.regA := rfl
@[simp] theorem State.endTick_regB (s : State) : (s.endTick).regB = s.regB := rfl
@[simp] theorem State.endTick_regX (s : State) : (s.endTick).regX = s.regX := rfl
@[simp] theorem State.endTick_regY (s : State) : (s.endTick).regY = s.regY := rfl
@[simp] theorem State.endTick_regD (s : State) : (s.endTick).regD = s.regD := rfl
@[simp] theorem State.endTick_regT (s : State) : (s.endTick).regT = s.regT := rfl
@[simp] theorem State.endTick_regI (s : State) : (s.endTick).regI = s.regI := rfl
@[simp] theorem State.endTick_regOUT (s : State) : (s.endTick).regOUT = s.regOUT := rfl
@[simp] theorem State.endTick_pc (s : State) : (s.endTick).pc = s.pc := rfl
@[simp] theorem State.endTick_sp (s : State) : (s.endTick).sp = s.sp := rfl
@[simp] theorem State.endTick_bp (s : State) : (s.endTick).bp = s.bp := rfl
@[simp] theorem State.endTick_ma (s : State) : (s.endTick).ma = s.ma := rfl
@[simp] theorem State.endTick_c0 (s : State) : (s.endTick).c0 = s.c0 := rfl
@[simp] theorem State.endTick_z0 (s : State) : (s.endTick).z0 = s.z0 := rfl
@[simp] theorem State.endTick_c1 (s : State) : (s.endTick).c1 = s.c1 := rfl
@[simp] theorem State.endTick_z1 (s : State) : (s.endTick).z1 = s.z1 := rfl
@[simp] theorem State.endTick_cycle (s : State) : (s.endTick).cycle = s.cycle := rfl
@[simp] theorem State.endTick_ram (s : State) : (s.endTick).ram = s.ram := rfl
@[simp] theorem State.endTick_trace (s : State) : (s.endTick).trace = s.trace := rfl
@[simp] theorem State.endTick_cfg (s : State) : (s.endTick).cfg = s.cfg := rfl
@[simp] theorem State.endTick_mode (s : State) : (s.endTick).mode = s.mode := rfl

/-! ### `endCycle` writes `cycle`, `tick` and `IN` -/

@[simp] theorem State.endCycle_regA (s : State) (rst : Bool) : (s.endCycle rst).regA = s.regA := rfl
@[simp] theorem State.endCycle_regB (s : State) (rst : Bool) : (s.endCycle rst).regB = s.regB := rfl
@[simp] theorem State.endCycle_regX (s : State) (rst : Bool) : (s.endCycle rst).regX = s.regX := rfl
@[simp] theorem State.endCycle_regY (s : State) (rst : Bool) : (s.endCycle rst).regY = s.regY := rfl
@[simp] theorem State.endCycle_regD (s : State) (rst : Bool) : (s.endCycle rst).regD = s.regD := rfl
@[simp] theorem State.endCycle_regT (s : State) (rst : Bool) : (s.endCycle rst).regT = s.regT := rfl
@[simp] theorem State.endCycle_regI (s : State) (rst : Bool) : (s.endCycle rst).regI = s.regI := rfl
@[simp] theorem State.endCycle_regOUT (s : State) (rst : Bool) : (s.endCycle rst).regOUT = s.regOUT := rfl
@[simp] theorem State.endCycle_pc (s : State) (rst : Bool) : (s.endCycle rst).pc = s.pc := rfl
@[simp] theorem State.endCycle_sp (s : State) (rst : Bool) : (s.endCycle rst).sp = s.sp := rfl
@[simp] theorem State.endCycle_bp (s : State) (rst : Bool) : (s.endCycle rst).bp = s.bp := rfl
@[simp] theorem State.endCycle_ma (s : State) (rst : Bool) : (s.endCycle rst).ma = s.ma := rfl
@[simp] theorem State.endCycle_c0 (s : State) (rst : Bool) : (s.endCycle rst).c0 = s.c0 := rfl
@[simp] theorem State.endCycle_z0 (s : State) (rst : Bool) : (s.endCycle rst).z0 = s.z0 := rfl
@[simp] theorem State.endCycle_c1 (s : State) (rst : Bool) : (s.endCycle rst).c1 = s.c1 := rfl
@[simp] theorem State.endCycle_z1 (s : State) (rst : Bool) : (s.endCycle rst).z1 = s.z1 := rfl
@[simp] theorem State.endCycle_ram (s : State) (rst : Bool) : (s.endCycle rst).ram = s.ram := rfl
@[simp] theorem State.endCycle_trace (s : State) (rst : Bool) : (s.endCycle rst).trace = s.trace := rfl
@[simp] theorem State.endCycle_cfg (s : State) (rst : Bool) : (s.endCycle rst).cfg = s.cfg := rfl
@[simp] theorem State.endCycle_mode (s : State) (rst : Bool) : (s.endCycle rst).mode = s.mode := rfl

/-! ### `pollInput` writes `IN` -/

@[simp] theorem State.pollInput_regA (s : State) : (s.pollInput).regA = s.regA := by
  unfold State.pollInput; split <;> rfl
@[simp] theorem State.pollInput_regB (s : State) : (s.pollInput).regB = s.regB := by
  unfold State.pollInput; split <;> rfl
@[simp] theorem State.pollInput_regX (s : State) : (s.pollInput).regX = s.regX := by
  unfold State.pollInput; split <;> rfl
@[simp] theorem State.pollInput_regY (s : State) : (s.pollInput).regY = s.regY := by
  unfold State.pollInput; split <;> rfl
@[simp] theorem State.pollInput_regD (s : State) : (s.pollInput).regD = s.regD := by
  unfold State.pollInput; split <;> rfl
@[simp] theorem State.pollInput_regT (s : State) : (s.pollInput).regT = s.regT := by
  unfold State.pollInput; split <;> rfl
@[simp] theorem State.pollInput_regI (s : State) : (s.pollInput).regI = s.regI := by
  unfold State.pollInput; split <;> rfl
@[simp] theorem State.pollInput_regOUT (s : State) : (s.pollInput).regOUT = s.regOUT := by
  unfold State.pollInput; split <;> rfl
@[simp] theorem State.pollInput_pc (s : State) : (s.pollInput).pc = s.pc := by
  unfold State.pollInput; split <;> rfl
@[simp] theorem State.pollInput_sp (s : State) : (s.pollInput).sp = s.sp := by
  unfold State.pollInput; split <;> rfl
@[simp] theorem State.pollInput_bp (s : State) : (s.pollInput).bp = s.bp := by
  unfold State.pollInput; split <;> rfl
@[simp] theorem State.pollInput_ma (s : State) : (s.pollInput).ma = s.ma := by
  unfold State.pollInput; split <;> rfl
@[simp] theorem State.pollInput_c0 (s : State) : (s.pollInput).c0 = s.c0 := by
  unfold State.pollInput; split <;> rfl
@[simp] theorem State.pollInput_z0 (s : State) : (s.pollInput).z0 = s.z0 := by
  unfold State.pollInput; split <;> rfl
@[simp] theorem State.pollInput_c1 (s : State) : (s.pollInput).c1 = s.c1 := by
  unfold State.pollInput; split <;> rfl
@[simp] theorem State.pollInput_z1 (s : State) : (s.pollInput).z1 = s.z1 := by
  unfold State.pollInput; split <;> rfl
@[simp] theorem State.pollInput_cycle (s : State) : (s.pollInput).cycle = s.cycle := by
  unfold State.pollInput; split <;> rfl
@[simp] theorem State.pollInput_tick (s : State) : (s.pollInput).tick = s.tick := by
  unfold State.pollInput; split <;> rfl
@[simp] theorem State.pollInput_ram (s : State) : (s.pollInput).ram = s.ram := by
  unfold State.pollInput; split <;> rfl
@[simp] theorem State.pollInput_trace (s : State) : (s.pollInput).trace = s.trace := by
  unfold State.pollInput; split <;> rfl
@[simp] theorem State.pollInput_cfg (s : State) : (s.pollInput).cfg = s.cfg := by
  unfold State.pollInput; split <;> rfl
@[simp] theorem State.pollInput_mode (s : State) : (s.pollInput).mode = s.mode := by
  unfold State.pollInput; split <;> rfl

/-! ### `fetchNext` writes `I`, `PC` and `cycle` -/

@[simp] theorem State.fetchNext_regA (s : State) : (s.fetchNext).regA = s.regA := rfl
@[simp] theorem State.fetchNext_regB (s : State) : (s.fetchNext).regB = s.regB := rfl
@[simp] theorem State.fetchNext_regX (s : State) : (s.fetchNext).regX = s.regX := rfl
@[simp] theorem State.fetchNext_regY (s : State) : (s.fetchNext).regY = s.regY := rfl
@[simp] theorem State.fetchNext_regD (s : State) : (s.fetchNext).regD = s.regD := rfl
@[simp] theorem State.fetchNext_regT (s : State) : (s.fetchNext).regT = s.regT := rfl
@[simp] theorem State.fetchNext_regIN (s : State) : (s.fetchNext).regIN = s.regIN := rfl
@[simp] theorem State.fetchNext_regOUT (s : State) : (s.fetchNext).regOUT = s.regOUT := rfl
@[simp] theorem State.fetchNext_sp (s : State) : (s.fetchNext).sp = s.sp := rfl
@[simp] theorem State.fetchNext_bp (s : State) : (s.fetchNext).bp = s.bp := rfl
@[simp] theorem State.fetchNext_ma (s : State) : (s.fetchNext).ma = s.ma := rfl
@[simp] theorem State.fetchNext_c0 (s : State) : (s.fetchNext).c0 = s.c0 := rfl
@[simp] theorem State.fetchNext_z0 (s : State) : (s.fetchNext).z0 = s.z0 := rfl
@[simp] theorem State.fetchNext_c1 (s : State) : (s.fetchNext).c1 = s.c1 := rfl
@[simp] theorem State.fetchNext_z1 (s : State) : (s.fetchNext).z1 = s.z1 := rfl
@[simp] theorem State.fetchNext_tick (s : State) : (s.fetchNext).tick = s.tick := rfl
@[simp] theorem State.fetchNext_ram (s : State) : (s.fetchNext).ram = s.ram := rfl
@[simp] theorem State.fetchNext_trace (s : State) : (s.fetchNext).trace = s.trace := rfl
@[simp] theorem State.fetchNext_cfg (s : State) : (s.fetchNext).cfg = s.cfg := rfl
@[simp] theorem State.fetchNext_mode (s : State) : (s.fetchNext).mode = s.mode := rfl

/-! ### `idleTicks` writes `tick` and `IN` -/

@[simp] theorem State.idleTicks_regA (n : Nat) (s : State) : (s.idleTicks n).regA = s.regA := by
  induction n generalizing s with
  | zero => rfl
  | succ n ih => simp [State.idleTicks, ih]
@[simp] theorem State.idleTicks_regB (n : Nat) (s : State) : (s.idleTicks n).regB = s.regB := by
  induction n generalizing s with
  | zero => rfl
  | succ n ih => simp [State.idleTicks, ih]
@[simp] theorem State.idleTicks_regX (n : Nat) (s : State) : (s.idleTicks n).regX = s.regX := by
  induction n generalizing s with
  | zero => rfl
  | succ n ih => simp [State.idleTicks, ih]
@[simp] theorem State.idleTicks_regY (n : Nat) (s : State) : (s.idleTicks n).regY = s.regY := by
  induction n generalizing s with
  | zero => rfl
  | succ n ih => simp [State.idleTicks, ih]
@[simp] theorem State.idleTicks_regD (n : Nat) (s : State) : (s.idleTicks n).regD = s.regD := by
  induction n generalizing s with
  | zero => rfl
  | succ n ih => simp [State.idleTicks, ih]
@[simp] theorem State.idleTicks_regT (n : Nat) (s : State) : (s.idleTicks n).regT = s.regT := by
  induction n generalizing s with
  | zero => rfl
  | succ n ih => simp [State.idleTicks, ih]
@[simp] theorem State.idleTicks_regI (n : Nat) (s : State) : (s.idleTicks n).regI = s.regI := by
  induction n generalizing s with
  | zero => rfl
  | succ n ih => simp [State.idleTicks, ih]
@[simp] theorem State.idleTicks_regOUT (n : Nat) (s : State) : (s.idleTicks n).regOUT = s.regOUT := by
  induction n generalizing s with
  | zero => rfl
  | succ n ih => simp [State.idleTicks, ih]
@[simp] theorem State.idleTicks_pc (n : Nat) (s : State) : (s.idleTicks n).pc = s.pc := by
  induction n generalizing s with
  | zero => rfl
  | succ n ih => simp [State.idleTicks, ih]
@[simp] theorem State.idleTicks_sp (n : Nat) (s : State) : (s.idleTicks n).sp = s.sp := by
  induction n generalizing s with
  | zero => rfl
  | succ n ih => simp [State.idleTicks, ih]
@[simp] theorem State.idleTicks_bp (n : Nat) (s : State) : (s.idleTicks n).bp = s.bp := by
  induction n generalizing s with
  | zero => rfl
  | succ n ih => simp [State.idleTicks, ih]
@[simp] theorem State.idleTicks_ma (n : Nat) (s : State) : (s.idleTicks n).ma = s.ma := by
  induction n generalizing s with
  | zero => rfl
  | succ n ih => simp [State.idleTicks, ih]
@[simp] theorem State.idleTicks_c0 (n : Nat) (s : State) : (s.idleTicks n).c0 = s.c0 := by
  induction n generalizing s with
  | zero => rfl
  | succ n ih => simp [State.idleTicks, ih]
@[simp] theorem State.idleTicks_z0 (n : Nat) (s : State) : (s.idleTicks n).z0 = s.z0 := by
  induction n generalizing s with
  | zero => rfl
  | succ n ih => simp [State.idleTicks, ih]
@[simp] theorem State.idleTicks_c1 (n : Nat) (s : State) : (s.idleTicks n).c1 = s.c1 := by
  induction n generalizing s with
  | zero => rfl
  | succ n ih => simp [State.idleTicks, ih]
@[simp] theorem State.idleTicks_z1 (n : Nat) (s : State) : (s.idleTicks n).z1 = s.z1 := by
  induction n generalizing s with
  | zero => rfl
  | succ n ih => simp [State.idleTicks, ih]
@[simp] theorem State.idleTicks_cycle (n : Nat) (s : State) : (s.idleTicks n).cycle = s.cycle := by
  induction n generalizing s with
  | zero => rfl
  | succ n ih => simp [State.idleTicks, ih]
@[simp] theorem State.idleTicks_ram (n : Nat) (s : State) : (s.idleTicks n).ram = s.ram := by
  induction n generalizing s with
  | zero => rfl
  | succ n ih => simp [State.idleTicks, ih]
@[simp] theorem State.idleTicks_trace (n : Nat) (s : State) : (s.idleTicks n).trace = s.trace := by
  induction n generalizing s with
  | zero => rfl
  | succ n ih => simp [State.idleTicks, ih]
@[simp] theorem State.idleTicks_cfg (n : Nat) (s : State) : (s.idleTicks n).cfg = s.cfg := by
  induction n generalizing s with
  | zero => rfl
  | succ n ih => simp [State.idleTicks, ih]
@[simp] theorem State.idleTicks_mode (n : Nat) (s : State) : (s.idleTicks n).mode = s.mode := by
  induction n generalizing s with
  | zero => rfl
  | succ n ih => simp [State.idleTicks, ih]

/-! ### `elapse` writes `tick` and `IN` -/

@[simp] theorem State.elapse_regA (s : State) (n : Nat) : (s.elapse n).regA = s.regA := by simp [State.elapse]
@[simp] theorem State.elapse_regB (s : State) (n : Nat) : (s.elapse n).regB = s.regB := by simp [State.elapse]
@[simp] theorem State.elapse_regX (s : State) (n : Nat) : (s.elapse n).regX = s.regX := by simp [State.elapse]
@[simp] theorem State.elapse_regY (s : State) (n : Nat) : (s.elapse n).regY = s.regY := by simp [State.elapse]
@[simp] theorem State.elapse_regD (s : State) (n : Nat) : (s.elapse n).regD = s.regD := by simp [State.elapse]
@[simp] theorem State.elapse_regT (s : State) (n : Nat) : (s.elapse n).regT = s.regT := by simp [State.elapse]
@[simp] theorem State.elapse_regI (s : State) (n : Nat) : (s.elapse n).regI = s.regI := by simp [State.elapse]
@[simp] theorem State.elapse_regOUT (s : State) (n : Nat) : (s.elapse n).regOUT = s.regOUT := by simp [State.elapse]
@[simp] theorem State.elapse_pc (s : State) (n : Nat) : (s.elapse n).pc = s.pc := by simp [State.elapse]
@[simp] theorem State.elapse_sp (s : State) (n : Nat) : (s.elapse n).sp = s.sp := by simp [State.elapse]
@[simp] theorem State.elapse_bp (s : State) (n : Nat) : (s.elapse n).bp = s.bp := by simp [State.elapse]
@[simp] theorem State.elapse_ma (s : State) (n : Nat) : (s.elapse n).ma = s.ma := by simp [State.elapse]
@[simp] theorem State.elapse_c0 (s : State) (n : Nat) : (s.elapse n).c0 = s.c0 := by simp [State.elapse]
@[simp] theorem State.elapse_z0 (s : State) (n : Nat) : (s.elapse n).z0 = s.z0 := by simp [State.elapse]
@[simp] theorem State.elapse_c1 (s : State) (n : Nat) : (s.elapse n).c1 = s.c1 := by simp [State.elapse]
@[simp] theorem State.elapse_z1 (s : State) (n : Nat) : (s.elapse n).z1 = s.z1 := by simp [State.elapse]
@[simp] theorem State.elapse_cycle (s : State) (n : Nat) : (s.elapse n).cycle = s.cycle := by simp [State.elapse]
@[simp] theorem State.elapse_ram (s : State) (n : Nat) : (s.elapse n).ram = s.ram := by simp [State.elapse]
@[simp] theorem State.elapse_trace (s : State) (n : Nat) : (s.elapse n).trace = s.trace := by simp [State.elapse]
@[simp] theorem State.elapse_cfg (s : State) (n : Nat) : (s.elapse n).cfg = s.cfg := by simp [State.elapse]
@[simp] theorem State.elapse_mode (s : State) (n : Nat) : (s.elapse n).mode = s.mode := by simp [State.elapse]

/-! ### `finish` writes `I`, `PC`, `cycle`, `tick` and `IN` -/

@[simp] theorem State.finish_regA (s : State) (n : Nat) : (s.finish n).regA = s.regA := by simp [State.finish]
@[simp] theorem State.finish_regB (s : State) (n : Nat) : (s.finish n).regB = s.regB := by simp [State.finish]
@[simp] theorem State.finish_regX (s : State) (n : Nat) : (s.finish n).regX = s.regX := by simp [State.finish]
@[simp] theorem State.finish_regY (s : State) (n : Nat) : (s.finish n).regY = s.regY := by simp [State.finish]
@[simp] theorem State.finish_regD (s : State) (n : Nat) : (s.finish n).regD = s.regD := by simp [State.finish]
@[simp] theorem State.finish_regT (s : State) (n : Nat) : (s.finish n).regT = s.regT := by simp [State.finish]
@[simp] theorem State.finish_regOUT (s : State) (n : Nat) : (s.finish n).regOUT = s.regOUT := by simp [State.finish]
@[simp] theorem State.finish_sp (s : State) (n : Nat) : (s.finish n).sp = s.sp := by simp [State.finish]
@[simp] theorem State.finish_bp (s : State) (n : Nat) : (s.finish n).bp = s.bp := by simp [State.finish]
@[simp] theorem State.finish_ma (s : State) (n : Nat) : (s.finish n).ma = s.ma := by simp [State.finish]
@[simp] theorem State.finish_c0 (s : State) (n : Nat) : (s.finish n).c0 = s.c0 := by simp [State.finish]
@[simp] theorem State.finish_z0 (s : State) (n : Nat) : (s.finish n).z0 = s.z0 := by simp [State.finish]
@[simp] theorem State.finish_c1 (s : State) (n : Nat) : (s.finish n).c1 = s.c1 := by simp [State.finish]
@[simp] theorem State.finish_z1 (s : State) (n : Nat) : (s.finish n).z1 = s.z1 := by simp [State.finish]
@[simp] theorem State.finish_cycle (s : State) (n : Nat) : (s.finish n).cycle = 0 := by simp [State.finish, State.fetchNext]
@[simp] theorem State.finish_ram (s : State) (n : Nat) : (s.finish n).ram = s.ram := by simp [State.finish]
@[simp] theorem State.finish_trace (s : State) (n : Nat) : (s.finish n).trace = s.trace := by simp [State.finish]
@[simp] theorem State.finish_cfg (s : State) (n : Nat) : (s.finish n).cfg = s.cfg := by simp [State.finish]
@[simp] theorem State.finish_mode (s : State) (n : Nat) : (s.finish n).mode = s.mode := by simp [State.finish]

/-! ### `skip` writes `PC` -/

@[simp] theorem State.skip_regA (s : State) (n : Addr) : (s.skip n).regA = s.regA := rfl
@[simp] theorem State.skip_regB (s : State) (n : Addr) : (s.skip n).regB = s.regB := rfl
@[simp] theorem State.skip_regX (s : State) (n : Addr) : (s.skip n).regX = s.regX := rfl
@[simp] theorem State.skip_regY (s : State) (n : Addr) : (s.skip n).regY = s.regY := rfl
@[simp] theorem State.skip_regD (s : State) (n : Addr) : (s.skip n).regD = s.regD := rfl
@[simp] theorem State.skip_regT (s : State) (n : Addr) : (s.skip n).regT = s.regT := rfl
@[simp] theorem State.skip_regI (s : State) (n : Addr) : (s.skip n).regI = s.regI := rfl
@[simp] theorem State.skip_regIN (s : State) (n : Addr) : (s.skip n).regIN = s.regIN := rfl
@[simp] theorem State.skip_regOUT (s : State) (n : Addr) : (s.skip n).regOUT = s.regOUT := rfl
@[simp] theorem State.skip_sp (s : State) (n : Addr) : (s.skip n).sp = s.sp := rfl
@[simp] theorem State.skip_bp (s : State) (n : Addr) : (s.skip n).bp = s.bp := rfl
@[simp] theorem State.skip_ma (s : State) (n : Addr) : (s.skip n).ma = s.ma := rfl
@[simp] theorem State.skip_c0 (s : State) (n : Addr) : (s.skip n).c0 = s.c0 := rfl
@[simp] theorem State.skip_z0 (s : State) (n : Addr) : (s.skip n).z0 = s.z0 := rfl
@[simp] theorem State.skip_c1 (s : State) (n : Addr) : (s.skip n).c1 = s.c1 := rfl
@[simp] theorem State.skip_z1 (s : State) (n : Addr) : (s.skip n).z1 = s.z1 := rfl
@[simp] theorem State.skip_cycle (s : State) (n : Addr) : (s.skip n).cycle = s.cycle := rfl
@[simp] theorem State.skip_tick (s : State) (n : Addr) : (s.skip n).tick = s.tick := rfl
@[simp] theorem State.skip_ram (s : State) (n : Addr) : (s.skip n).ram = s.ram := rfl
@[simp] theorem State.skip_trace (s : State) (n : Addr) : (s.skip n).trace = s.trace := rfl
@[simp] theorem State.skip_cfg (s : State) (n : Addr) : (s.skip n).cfg = s.cfg := rfl
@[simp] theorem State.skip_mode (s : State) (n : Addr) : (s.skip n).mode = s.mode := rfl

end Sys2Proof.Machine
end

