-- ==== Sys2Proof/Laws/Ops.lean ====
section
/-! SUPPORT. What the shared operations write: for each operation the lemma that says once what it does. -/

namespace Sys2Proof.Machine

/-! ### Bytes and halves -/

theorem getLsbD_joinBytes (hi lo : Byte) (i : Nat) :
    (joinBytes hi lo).getLsbD i = if i < 8 then lo.getLsbD i else hi.getLsbD (i - 8) :=
  BitVec.getLsbD_append

@[simp] theorem loByte_joinBytes (hi lo : Byte) : loByte (joinBytes hi lo) = lo := by
  apply BitVec.eq_of_getLsbD_eq
  intro i h
  rw [loByte, BitVec.getLsbD_extractLsb', getLsbD_joinBytes]
  simp [h]

@[simp] theorem hiByte_joinBytes (hi lo : Byte) : hiByte (joinBytes hi lo) = hi := by
  apply BitVec.eq_of_getLsbD_eq
  intro i h
  rw [hiByte, BitVec.getLsbD_extractLsb', getLsbD_joinBytes]
  simp [h]

@[simp] theorem joinBytes_hiByte_loByte (v : Addr) : joinBytes (hiByte v) (loByte v) = v := by
  simp only [hiByte, loByte, joinBytes]
  ext i hi
  simp only [BitVec.getElem_append, BitVec.getElem_extractLsb']
  split <;> simp_all [BitVec.getLsbD_eq_getElem]

/-! ### Registers and flags -/

theorem State.slot_setSlot (s : State) (k j : Slot) (v : Byte) :
    (s.setSlot k v).slot j = if j = k then v else s.slot j := by
  cases k <;> cases j <;> rfl

@[simp] theorem State.slot_setSlot_self (s : State) (k : Slot) (v : Byte) : (s.setSlot k v).slot k = v := by
  simp [State.slot_setSlot]

theorem State.carryOf_setFlags (s : State) (k j c z : Bool) :
    (s.setFlags k c z).carryOf j = if j = k then c else s.carryOf j := by
  cases k <;> cases j <;> rfl

theorem State.zeroOf_setFlags (s : State) (k j c z : Bool) :
    (s.setFlags k c z).zeroOf j = if j = k then z else s.zeroOf j := by
  cases k <;> cases j <;> rfl

/-- `latchAlu` writes the result to `T` and the flags to the bank. -/
theorem State.latchAlu_spec (s : State) (k : Bool) (r : AluOut 8) :
    (s.latchAlu k r).regT = r.f ∧
    (∀ j, (s.latchAlu k r).carryOf j = if j = k then r.carry else s.carryOf j) ∧
    (∀ j, (s.latchAlu k r).zeroOf j = if j = k then r.zero else s.zeroOf j) := by
  refine ⟨by cases k <;> rfl, fun j => ?_, fun j => ?_⟩
  · cases k <;> cases j <;> rfl
  · cases k <;> cases j <;> rfl

/-! ### Memory -/

/-- A read depends on memory and on the parameters only. -/
theorem State.memRead_congr {s t : State} (hram : t.ram = s.ram) (hcfg : t.cfg = s.cfg) (a : Addr) :
    t.memRead a = s.memRead a := by
  simp [State.memRead, hram, hcfg]

/-- `memWrite` stores the byte at its address outside the bootstrap region and nothing else (R54). -/
theorem State.memRead_memWrite (s : State) (a : Addr) (v : Byte) (x : Addr) :
    (s.memWrite a v).memRead x = if x = a ∧ s.cfg.bootSize ≤ a.toNat then v else s.memRead x := by
  unfold State.memWrite
  split
  · rename_i h
    rw [if_neg]; omega
  · rename_i h
    simp only [State.memRead]
    by_cases hx : x = a
    · subst hx; rw [if_neg h, Memory.read_write, if_pos rfl, if_pos ⟨rfl, by omega⟩]
    · have : x.toNat ≠ a.toNat := fun h' => hx (BitVec.eq_of_toNat_eq h')
      simp [Memory.read_write, this, hx]

/-- `memWrite` keeps the canonical form of memory. -/
theorem State.memoryWf_memWrite {s : State} (h : s.memoryWf) (a : Addr) (v : Byte) : (s.memWrite a v).memoryWf := by
  unfold State.memWrite
  split
  · exact h
  · exact ⟨Memory.wf_write h.1 a.isLt, Memory.all_write h.2 (decide_eq_true (Nat.le_of_not_lt ‹_›))⟩

/-- The canonical form of memory depends on memory and on the parameters only. -/
theorem State.memoryWf_congr {s t : State} (hram : t.ram = s.ram) (hcfg : t.cfg = s.cfg) :
    t.memoryWf ↔ s.memoryWf := by
  simp [State.memoryWf, hram, hcfg]

/-- A byte placed by the loader keeps the canonical form of memory. -/
theorem memoryWf_pokeByte {s : State} (h : s.memoryWf) (a : Addr) (v : Byte) : (pokeByte s a v).memoryWf := by
  unfold pokeByte
  split
  · exact h
  · exact ⟨Memory.wf_write h.1 a.isLt, Memory.all_write h.2 (decide_eq_true (Nat.le_of_not_lt ‹_›))⟩

theorem State.reset_memoryWf : State.reset.memoryWf := by decide

/-- A byte written into a bank of the control store is the byte read there, and no other entry changes. -/
theorem romWord_write (g : Config) (a b : RomAddr) (w : CtrlBits) :
    romWord { g with
      rom0 := Memory.write (rom0Blank g.fill) g.rom0 a.toNat (loByte w)
      rom1 := Memory.write (rom1Blank g.fill) g.rom1 a.toNat (hiByte w) } b =
      if b = a then w else romWord g b := by
  simp only [romWord, Memory.read_write]
  by_cases h : b = a
  · subst h; simpa [controlBits, joinBytes] using joinBytes_hiByte_loByte w
  · have : b.toNat ≠ a.toNat := fun h' => h (BitVec.eq_of_toNat_eq h')
    simp [this, h]

/-! ### Time -/

theorem State.endTick_tick (s : State) : s.endTick.tick = s.tick + 1 := rfl

/-- `endTick` inverts bit 4 of `IN` when the new tick is a multiple of the period, and keeps the other bits (R100). -/
theorem State.endTick_input (s : State) (k : Nat) (hk : k < 8) :
    s.endTick.regIN.getLsbD k =
      (s.regIN.getLsbD k != (decide (k = 4) && decide ((s.tick + 1) % s.cfg.clkTogglePeriod = 0))) := by
  have h10 : (0x10#8).getLsbD k = decide (k = 4) := by
    have : k = 0 ∨ k = 1 ∨ k = 2 ∨ k = 3 ∨ k = 4 ∨ k = 5 ∨ k = 6 ∨ k = 7 := by omega
    rcases this with h | h | h | h | h | h | h | h <;> subst h <;> rfl
  simp only [State.endTick]
  by_cases h : (s.tick + 1) % s.cfg.clkTogglePeriod = 0
  · rw [if_pos h, BitVec.getLsbD_xor]
    simp only [h, decide_true, Bool.and_true]
    rw [← h10]
    rfl
  · simp [h]

theorem State.endCycle_tick (s : State) (rst : Bool) : (s.endCycle rst).tick = s.tick + 1 := rfl

theorem State.endCycle_cycle (s : State) (rst : Bool) : (s.endCycle rst).cycle = if rst then 0 else s.cycle + 1 := rfl

/-- `endCycle` does to the counters and to `IN` what every micro-cycle does (R98 to R100). -/
theorem State.endCycle_endsCycle (s : State) (rst : Bool) : s.endsCycle (s.endCycle rst) rst := by
  refine ⟨?_, rfl, fun k hk => State.endTick_input { s with cycle := if rst then 0 else s.cycle + 1 } k hk⟩
  cases rst
  · simp [State.endCycle_cycle, BitVec.toNat_add]
  · rfl

theorem State.memRead_endCycle (s : State) (rst : Bool) (a : Addr) : (s.endCycle rst).memRead a = s.memRead a :=
  State.memRead_congr (by simp) (by simp) a

/-- The collaborator leaves `IN[4]` alone (R307). -/
theorem State.pollInput_clock (s : State) : s.pollInput.regIN.getLsbD 4 = s.regIN.getLsbD 4 := by
  have key : ∀ e : InputEvent, (applyInput e s.regIN).getLsbD 4 = s.regIN.getLsbD 4 := by
    intro e
    have h := BitVec.getLsbD_append (x := e.done ++ e.ready ++ s.regIN.extractLsb' 4 1) (y := e.data) (i := 4)
    have h' := BitVec.getLsbD_append (x := e.done ++ e.ready) (y := s.regIN.extractLsb' 4 1) (i := 0)
    exact (h.trans h').trans (by simp)
  unfold State.pollInput
  split
  · exact key _
  · rfl

@[simp] theorem State.memRead_pollInput (s : State) (a : Addr) : s.pollInput.memRead a = s.memRead a :=
  State.memRead_congr (by simp) (by simp) a

theorem State.idleTicks_tick (n : Nat) (s : State) : (s.idleTicks n).tick = s.tick + n := by
  induction n generalizing s with
  | zero => rfl
  | succ n ih => simp [State.idleTicks, ih, State.endTick_tick]; omega

/-- `elapse` lets `n` ticks pass, for an instruction of at least one micro-cycle. -/
theorem State.elapse_tick (s : State) (n : Nat) (hn : 1 ≤ n) : (s.elapse n).tick = s.tick + n := by
  simp [State.elapse, State.idleTicks_tick, State.endTick_tick]; omega

/-- How time passes for `IN` depends on `IN`, `tick` and the parameters only. -/
theorem State.idleTicks_input_congr {s t : State} (n : Nat) (hin : t.regIN = s.regIN) (htick : t.tick = s.tick)
    (hcfg : t.cfg = s.cfg) : (t.idleTicks n).regIN = (s.idleTicks n).regIN := by
  induction n generalizing s t with
  | zero => exact hin
  | succ n ih =>
    have hpoll : t.pollInput.regIN = s.pollInput.regIN := by
      simp only [State.pollInput, hcfg, htick]
      split <;> simp [hin]
    exact ih (by simp [State.endTick, hpoll, htick, hcfg]) (by simp [State.endTick_tick, htick]) (by simp [hcfg])

theorem State.elapse_input_congr {s t : State} (n : Nat) (hin : t.regIN = s.regIN) (htick : t.tick = s.tick)
    (hcfg : t.cfg = s.cfg) : (t.elapse n).regIN = (s.elapse n).regIN :=
  State.idleTicks_input_congr _ (by simp [State.endTick, hin, htick, hcfg]) (by simp [State.endTick_tick, htick])
    (by simp [hcfg])

/-- `finish` is the closing fetch and the time of the whole instruction (R221). -/
theorem State.finish_spec (s : State) (n : Nat) (hn : 1 ≤ n) :
    (s.finish n).regI = s.memRead s.pc ∧ (s.finish n).pc = s.pc + 1 ∧ (s.finish n).cycle = 0 ∧
    (s.finish n).tick = s.tick + n ∧ (s.finish n).regIN = (s.elapse n).regIN := by
  refine ⟨by simp [State.finish, State.fetchNext], by simp [State.finish, State.fetchNext], by simp, ?_, ?_⟩
  · simp [State.finish, State.elapse_tick _ n hn]
  · exact State.elapse_input_congr n (by simp) (by simp) (by simp)

theorem State.memRead_finish (s : State) (n : Nat) (a : Addr) : (s.finish n).memRead a = s.memRead a :=
  State.memRead_congr (by simp) (by simp) a

/-! ### The stack pointer -/

/-- Every value that `spFix` gives is pinned (R29). -/
theorem State.stackPinned_spFix (s : State) (v : Addr) : hiByte (s.spFix v) &&& s.cfg.spBaseHi = s.cfg.spBaseHi := by
  apply BitVec.eq_of_getLsbD_eq
  intro i h
  rw [BitVec.getLsbD_and, hiByte, BitVec.getLsbD_extractLsb', State.spFix, BitVec.getLsbD_or, getLsbD_joinBytes]
  simp only [h, decide_true, Bool.true_and, if_neg (Nat.not_lt.mpr (Nat.le_add_right 8 i)), Nat.add_sub_cancel_left]
  cases s.cfg.spBaseHi.getLsbD i <;> simp

/-- `SP` after `SP_INC` (R141). -/
theorem sinkSpInc_sp (s : State) : (sinkSpInc s).sp = s.spFix (s.sp + 1) := rfl

/-- `SP` after `SP_DEC` (R142). -/
theorem sinkSpDec_sp (s : State) : (sinkSpDec s).sp = s.spFix (s.sp - 1) := rfl

/-- A push writes `SP` and memory (R248). -/
theorem pushByte_spec (v : Byte) (s : State) :
    (pushByte v s).sp = s.spFix (s.sp - 1) ∧
    ∀ x, (pushByte v s).memRead x =
      if x = s.spFix (s.sp - 1) ∧ s.cfg.bootSize ≤ (s.spFix (s.sp - 1)).toNat then v else s.memRead x := by
  refine ⟨by simp [pushByte, sinkSpDec_sp], fun x => ?_⟩
  rw [pushByte, State.memRead_memWrite, sinkSpDec_sp]
  rfl

/-! ### Sinks -/

/-- A sink other than `AW.MEM` leaves memory alone. -/
theorem runSink_ram (w : BusAW) (alu : AluFields) (bus : Buses) (s : State) (h : w ≠ .mem) :
    (runSink w alu bus s).ram = s.ram := by
  cases w <;> simp_all [runSink, sinkReg, sinkD, sinkAlu, sinkOut, sinkPc, sinkSp, sinkBp, sinkMa, sinkPcInc, sinkSpInc,
    sinkSpDec, sinkBpInc, sinkBpDec, sinkAdv]

/-- No sink writes the parameters, the host's mode, `tick`, `cycle` or `IN` (R147). -/
theorem runSink_keeps (w : BusAW) (alu : AluFields) (bus : Buses) (s : State) :
    (runSink w alu bus s).cfg = s.cfg ∧ (runSink w alu bus s).mode = s.mode ∧ (runSink w alu bus s).tick = s.tick ∧
    (runSink w alu bus s).cycle = s.cycle ∧ (runSink w alu bus s).regIN = s.regIN := by
  cases w <;> simp [runSink, sinkReg, sinkD, sinkAlu, sinkMem, sinkOut, sinkPc, sinkSp, sinkBp, sinkMa, sinkPcInc,
    sinkSpInc, sinkSpDec, sinkBpInc, sinkBpDec, sinkAdv]

/-- Every sink keeps the canonical form of memory. -/
theorem runSink_memoryWf {w : BusAW} {alu : AluFields} {bus : Buses} {s : State} (h : s.memoryWf) :
    (runSink w alu bus s).memoryWf := by
  by_cases hw : w = .mem
  · subst hw; exact State.memoryWf_memWrite h _ _
  · exact (State.memoryWf_congr (runSink_ram w alu bus s hw) (runSink_keeps w alu bus s).1).mpr h

/-- Only `AW.OUT` raises an event (R134). -/
theorem runSink_trace (w : BusAW) (alu : AluFields) (bus : Buses) (s : State) :
    (runSink w alu bus s).trace = s.trace ++ (if w = .out then [(s.tick + 1, bus.a)] else []) := by
  cases w <;> simp [runSink, sinkReg, sinkD, sinkAlu, sinkMem, sinkOut, sinkPc, sinkSp, sinkBp, sinkMa, sinkPcInc,
    sinkSpInc, sinkSpDec, sinkBpInc, sinkBpDec, sinkAdv, State.emit]

/-- A bus value does not depend on what else is on the buses: `runControl` is `runSink` on the driven buses, then the
end of the micro-cycle (R101). -/
theorem runControl_eq (cw : ControlWord) (s : State) :
    runControl cw s = (runSink cw.busAW cw.alu (drive cw.busAR cw.busB cw.busC s) s).endCycle (clearsCycle cw.busAW) :=
  rfl

end Sys2Proof.Machine
end

