-- ==== Sys2Proof/Laws/PerInstr.lean ====
section
/-! SUPPORT. What is said of every instruction as syntax, one lemma per constructor. -/

/-- The encoder writes two bytes for a control word (30_encoding.md R70), and for an opcode one byte and its operand
bytes (R83). -/
def Sys2Proof.Laws.EncodedLength.Statement (i : Sys2Proof.Instr) : Prop :=
  i.wellFormed = true →
    (Sys2Proof.encode i).length =
      match i.opcode with
      | some op => 1 + Sys2Proof.operandCount op
      | none => 2

namespace Sys2Proof.Laws.EncodedLength

theorem awReg (ar : BusAR) (b : BusB) (c : BusC) (alu : AluFields) : Statement (.awReg ar b c alu) := fun _ => rfl

theorem awD (ar : BusAR) (b : BusB) (c : BusC) (alu : AluFields) : Statement (.awD ar b c alu) := fun _ => rfl

theorem awAlu (ar : BusAR) (b : BusB) (c : BusC) (alu : AluFields) : Statement (.awAlu ar b c alu) := fun _ => rfl

theorem awMem (ar : BusAR) (b : BusB) (c : BusC) (alu : AluFields) : Statement (.awMem ar b c alu) := fun _ => rfl

theorem awOut (ar : BusAR) (b : BusB) (c : BusC) (alu : AluFields) : Statement (.awOut ar b c alu) := fun _ => rfl

theorem awPc (ar : BusAR) (b : BusB) (c : BusC) (alu : AluFields) : Statement (.awPc ar b c alu) := fun _ => rfl

theorem awSp (ar : BusAR) (b : BusB) (c : BusC) (alu : AluFields) : Statement (.awSp ar b c alu) := fun _ => rfl

theorem awBp (ar : BusAR) (b : BusB) (c : BusC) (alu : AluFields) : Statement (.awBp ar b c alu) := fun _ => rfl

theorem awMa (ar : BusAR) (b : BusB) (c : BusC) (alu : AluFields) : Statement (.awMa ar b c alu) := fun _ => rfl

theorem awPcInc (ar : BusAR) (b : BusB) (c : BusC) (alu : AluFields) : Statement (.awPcInc ar b c alu) := fun _ => rfl

theorem awSpInc (ar : BusAR) (b : BusB) (c : BusC) (alu : AluFields) : Statement (.awSpInc ar b c alu) := fun _ => rfl

theorem awSpDec (ar : BusAR) (b : BusB) (c : BusC) (alu : AluFields) : Statement (.awSpDec ar b c alu) := fun _ => rfl

theorem awBpInc (ar : BusAR) (b : BusB) (c : BusC) (alu : AluFields) : Statement (.awBpInc ar b c alu) := fun _ => rfl

theorem awBpDec (ar : BusAR) (b : BusB) (c : BusC) (alu : AluFields) : Statement (.awBpDec ar b c alu) := fun _ => rfl

theorem awRst (ar : BusAR) (b : BusB) (c : BusC) (alu : AluFields) : Statement (.awRst ar b c alu) := fun _ => rfl

theorem awAdv (ar : BusAR) (b : BusB) (c : BusC) (alu : AluFields) : Statement (.awAdv ar b c alu) := fun _ => rfl

theorem arReg (w : BusAW) (b : BusB) (c : BusC) (alu : AluFields) : Statement (.arReg w b c alu) := fun _ => rfl

theorem arD (w : BusAW) (b : BusB) (c : BusC) (alu : AluFields) : Statement (.arD w b c alu) := fun _ => rfl

theorem arIn (w : BusAW) (b : BusB) (c : BusC) (alu : AluFields) : Statement (.arIn w b c alu) := fun _ => rfl

theorem arT (w : BusAW) (b : BusB) (c : BusC) (alu : AluFields) : Statement (.arT w b c alu) := fun _ => rfl

theorem arMem (w : BusAW) (b : BusB) (c : BusC) (alu : AluFields) : Statement (.arMem w b c alu) := fun _ => rfl

theorem arPc (w : BusAW) (b : BusB) (c : BusC) (alu : AluFields) : Statement (.arPc w b c alu) := fun _ => rfl

theorem arSp (w : BusAW) (b : BusB) (c : BusC) (alu : AluFields) : Statement (.arSp w b c alu) := fun _ => rfl

theorem arBp (w : BusAW) (b : BusB) (c : BusC) (alu : AluFields) : Statement (.arBp w b c alu) := fun _ => rfl

theorem bbReg (ar : BusAR) (w : BusAW) (c : BusC) (alu : AluFields) : Statement (.bbReg ar w c alu) := fun _ => rfl

theorem bbD (ar : BusAR) (w : BusAW) (c : BusC) (alu : AluFields) : Statement (.bbD ar w c alu) := fun _ => rfl

theorem bcPc (ar : BusAR) (w : BusAW) (b : BusB) (alu : AluFields) : Statement (.bcPc ar w b alu) := fun _ => rfl

theorem bcMa (ar : BusAR) (w : BusAW) (b : BusB) (alu : AluFields) : Statement (.bcMa ar w b alu) := fun _ => rfl

theorem bcSp (ar : BusAR) (w : BusAW) (b : BusB) (alu : AluFields) : Statement (.bcSp ar w b alu) := fun _ => rfl

theorem bcBp (ar : BusAR) (w : BusAW) (b : BusB) (alu : AluFields) : Statement (.bcBp ar w b alu) := fun _ => rfl

theorem arith0 (ar : BusAR) (b : BusB) (c : BusC) (cin : Bool) : Statement (.arith0 ar b c cin) := fun _ => rfl

theorem arith1 (ar : BusAR) (b : BusB) (c : BusC) (cin : Bool) : Statement (.arith1 ar b c cin) := fun _ => rfl

theorem arith2 (ar : BusAR) (b : BusB) (c : BusC) (cin : Bool) : Statement (.arith2 ar b c cin) := fun _ => rfl

theorem arith3 (ar : BusAR) (b : BusB) (c : BusC) (cin : Bool) : Statement (.arith3 ar b c cin) := fun _ => rfl

theorem arith4 (ar : BusAR) (b : BusB) (c : BusC) (cin : Bool) : Statement (.arith4 ar b c cin) := fun _ => rfl

theorem arith5 (ar : BusAR) (b : BusB) (c : BusC) (cin : Bool) : Statement (.arith5 ar b c cin) := fun _ => rfl

theorem arith6 (ar : BusAR) (b : BusB) (c : BusC) (cin : Bool) : Statement (.arith6 ar b c cin) := fun _ => rfl

theorem arith7 (ar : BusAR) (b : BusB) (c : BusC) (cin : Bool) : Statement (.arith7 ar b c cin) := fun _ => rfl

theorem arith8 (ar : BusAR) (b : BusB) (c : BusC) (cin : Bool) : Statement (.arith8 ar b c cin) := fun _ => rfl

theorem arith9 (ar : BusAR) (b : BusB) (c : BusC) (cin : Bool) : Statement (.arith9 ar b c cin) := fun _ => rfl

theorem arith10 (ar : BusAR) (b : BusB) (c : BusC) (cin : Bool) : Statement (.arith10 ar b c cin) := fun _ => rfl

theorem arith11 (ar : BusAR) (b : BusB) (c : BusC) (cin : Bool) : Statement (.arith11 ar b c cin) := fun _ => rfl

theorem arith12 (ar : BusAR) (b : BusB) (c : BusC) (cin : Bool) : Statement (.arith12 ar b c cin) := fun _ => rfl

theorem arith13 (ar : BusAR) (b : BusB) (c : BusC) (cin : Bool) : Statement (.arith13 ar b c cin) := fun _ => rfl

theorem arith14 (ar : BusAR) (b : BusB) (c : BusC) (cin : Bool) : Statement (.arith14 ar b c cin) := fun _ => rfl

theorem arith15 (ar : BusAR) (b : BusB) (c : BusC) (cin : Bool) : Statement (.arith15 ar b c cin) := fun _ => rfl

theorem logic0 (ar : BusAR) (b : BusB) (c : BusC) (cin : Bool) : Statement (.logic0 ar b c cin) := fun _ => rfl

theorem logic1 (ar : BusAR) (b : BusB) (c : BusC) (cin : Bool) : Statement (.logic1 ar b c cin) := fun _ => rfl

theorem logic2 (ar : BusAR) (b : BusB) (c : BusC) (cin : Bool) : Statement (.logic2 ar b c cin) := fun _ => rfl

theorem logic3 (ar : BusAR) (b : BusB) (c : BusC) (cin : Bool) : Statement (.logic3 ar b c cin) := fun _ => rfl

theorem logic4 (ar : BusAR) (b : BusB) (c : BusC) (cin : Bool) : Statement (.logic4 ar b c cin) := fun _ => rfl

theorem logic5 (ar : BusAR) (b : BusB) (c : BusC) (cin : Bool) : Statement (.logic5 ar b c cin) := fun _ => rfl

theorem logic6 (ar : BusAR) (b : BusB) (c : BusC) (cin : Bool) : Statement (.logic6 ar b c cin) := fun _ => rfl

theorem logic7 (ar : BusAR) (b : BusB) (c : BusC) (cin : Bool) : Statement (.logic7 ar b c cin) := fun _ => rfl

theorem logic8 (ar : BusAR) (b : BusB) (c : BusC) (cin : Bool) : Statement (.logic8 ar b c cin) := fun _ => rfl

theorem logic9 (ar : BusAR) (b : BusB) (c : BusC) (cin : Bool) : Statement (.logic9 ar b c cin) := fun _ => rfl

theorem logic10 (ar : BusAR) (b : BusB) (c : BusC) (cin : Bool) : Statement (.logic10 ar b c cin) := fun _ => rfl

theorem logic11 (ar : BusAR) (b : BusB) (c : BusC) (cin : Bool) : Statement (.logic11 ar b c cin) := fun _ => rfl

theorem logic12 (ar : BusAR) (b : BusB) (c : BusC) (cin : Bool) : Statement (.logic12 ar b c cin) := fun _ => rfl

theorem logic13 (ar : BusAR) (b : BusB) (c : BusC) (cin : Bool) : Statement (.logic13 ar b c cin) := fun _ => rfl

theorem logic14 (ar : BusAR) (b : BusB) (c : BusC) (cin : Bool) : Statement (.logic14 ar b c cin) := fun _ => rfl

theorem logic15 (ar : BusAR) (b : BusB) (c : BusC) (cin : Bool) : Statement (.logic15 ar b c cin) := fun _ => rfl

theorem fetch : Statement (.fetch) := fun _ => rfl

theorem nop : Statement (.nop) := fun _ => rfl

theorem hlt : Statement (.hlt) := fun _ => rfl

theorem outR (r : Slot) : Statement (.outR r) := by
  intro _; cases r <;> rfl

theorem inR (r : Slot) : Statement (.inR r) := by
  intro _; cases r <;> rfl

theorem movi (r : Slot) (imm : Byte) : Statement (.movi r imm) := by
  intro _; cases r <;> rfl

theorem add (r1 r2 : Slot) : Statement (.add r1 r2) := by
  intro _; cases r1 <;> cases r2 <;> rfl

theorem sub (r1 r2 : Slot) : Statement (.sub r1 r2) := by
  intro _; cases r1 <;> cases r2 <;> rfl

theorem and (r1 r2 : Slot) : Statement (.and r1 r2) := by
  intro _; cases r1 <;> cases r2 <;> rfl

theorem or (r1 r2 : Slot) : Statement (.or r1 r2) := by
  intro _; cases r1 <;> cases r2 <;> rfl

theorem xor (r1 r2 : Slot) : Statement (.xor r1 r2) := by
  intro _; cases r1 <;> cases r2 <;> rfl

theorem addi (r : Slot) (imm : Byte) : Statement (.addi r imm) := by
  intro _; cases r <;> rfl

theorem subi (r : Slot) (imm : Byte) : Statement (.subi r imm) := by
  intro _; cases r <;> rfl

theorem adci (r : Slot) (imm : Byte) : Statement (.adci r imm) := by
  intro _; cases r <;> rfl

theorem cmpi (r : Slot) (imm : Byte) : Statement (.cmpi r imm) := by
  intro _; cases r <;> rfl

theorem jmp (addr : Addr) : Statement (.jmp addr) := fun _ => rfl

theorem jc (addr : Addr) : Statement (.jc addr) := fun _ => rfl

theorem jnc (addr : Addr) : Statement (.jnc addr) := fun _ => rfl

theorem jz (addr : Addr) : Statement (.jz addr) := fun _ => rfl

theorem jnz (addr : Addr) : Statement (.jnz addr) := fun _ => rfl

theorem call (addr : Addr) : Statement (.call addr) := fun _ => rfl

theorem ret : Statement (.ret) := fun _ => rfl

theorem inc (r : Slot) : Statement (.inc r) := by
  intro _; cases r <;> rfl

theorem dec (r : Slot) : Statement (.dec r) := by
  intro _; cases r <;> rfl

theorem mov (r1 r2 : Slot) : Statement (.mov r1 r2) := by
  intro _; cases r1 <;> cases r2 <;> rfl

theorem ld (r : Slot) (addr : Addr) : Statement (.ld r addr) := by
  intro _; cases r <;> rfl

theorem st (r : Slot) (addr : Addr) : Statement (.st r addr) := by
  intro _; cases r <;> rfl

theorem push (r : Slot) : Statement (.push r) := by
  intro _; cases r <;> rfl

theorem pop (r : Slot) : Statement (.pop r) := by
  intro _; cases r <;> rfl

theorem movbp (addr : Addr) : Statement (.movbp addr) := fun _ => rfl

theorem movsp (addr : Addr) : Statement (.movsp addr) := fun _ => rfl

theorem incbp : Statement (.incbp) := fun _ => rfl

theorem decbp : Statement (.decbp) := fun _ => rfl

theorem ldbp (r : Slot) : Statement (.ldbp r) := by
  intro _; cases r <;> rfl

theorem stbp (r : Slot) : Statement (.stbp r) := by
  intro _; cases r <;> rfl

theorem movbpl (r : Slot) : Statement (.movbpl r) := by
  intro _; cases r <;> rfl

theorem movbph (r : Slot) : Statement (.movbph r) := by
  intro _; cases r <;> rfl

theorem movspl (r : Slot) : Statement (.movspl r) := by
  intro _; cases r <;> rfl

theorem movsph (r : Slot) : Statement (.movsph r) := by
  intro _; cases r <;> rfl

theorem unassigned02 (op : Byte) : Statement (.unassigned02 op) := by
  intro h
  simp only [Instr.wellFormed, Bool.and_eq_true, decide_eq_true_eq, BitVec.le_def, BitVec.reduceToNat] at h
  simp only [encode, Instr.control, Instr.opcode, Instr.operands, List.length_cons, List.length_nil, operandCount]
  repeat (first | rw [if_neg (by omega)] | rfl)

theorem unassigned77 : Statement (.unassigned77) := fun _ => rfl

theorem unassignedAC (op : Byte) : Statement (.unassignedAC op) := by
  intro h
  simp only [Instr.wellFormed, Bool.and_eq_true, decide_eq_true_eq, BitVec.le_def, BitVec.reduceToNat] at h
  simp only [encode, Instr.control, Instr.opcode, Instr.operands, List.length_cons, List.length_nil, operandCount]
  repeat (first | rw [if_neg (by omega)] | rfl)

theorem unassignedC0 (op : Byte) : Statement (.unassignedC0 op) := by
  intro h
  simp only [Instr.wellFormed, decide_eq_true_eq, BitVec.le_def, BitVec.reduceToNat] at h
  simp only [encode, Instr.control, Instr.opcode, Instr.operands, List.length_cons, List.length_nil, operandCount]
  repeat (first | rw [if_neg (by omega)] | rfl)

end Sys2Proof.Laws.EncodedLength
end

