-- ==== Sys2Proof/Tests/Slice0.lean ====
section
/-! SUPPORT. Tests. Expected values are the spec's: the vectors of 95_test_vectors.md (named in the comments by their
ids), the examples of the rules, or a word written out from the encoding tables. Each theorem about execution is one
step. The last part shows, for every statement with hypotheses, a state and operands that meet them. -/

-- One theorem at a time: many kernel evaluations in flight at once take a thread each.
set_option Elab.async false

open Sys2Proof Sys2Proof.Machine

namespace Sys2Proof.Tests

/-- A part of the state an outcome goes on in. -/
def got {α : Type} (r : Result) (f : State → α) : Option α :=
  match r with
  | .next t => some (f t)
  | .fault _ => none
  | .refused _ => none

/-! ### Well-formedness: an ill-formed term for each check, which the check refuses (R260) -/

theorem test_wellFormed_refuses_unassigned02 :
    (Instr.unassigned02 0x01).wellFormed = false ∧ (Instr.unassigned02 0x04).wellFormed = false := by decide
theorem test_wellFormed_refuses_unassignedAC :
    (Instr.unassignedAC 0xAB).wellFormed = false ∧ (Instr.unassignedAC 0xB0).wellFormed = false := by decide
theorem test_wellFormed_refuses_unassignedC0 : (Instr.unassignedC0 0xBF).wellFormed = false := by decide
theorem test_wellFormed_admits :
    (Instr.unassigned02 0x02).wellFormed = true ∧ (Instr.unassignedAC 0xAF).wellFormed = true ∧
    (Instr.unassignedC0 0xC0).wellFormed = true ∧ (Instr.unassignedC0 0xFF).wellFormed = true ∧
    (Instr.movi .Y 0xFF).wellFormed = true := by decide

/-! ### Decoding, every constructor by a word written out from the spec's encoding (R70 to R77, R261) -/

/-- Sink rows: `CW[6:3]`, with `busAR` 7, `busB` 1, `busC` 2, `aluSelect` 5, `aluMode` 1, `aluCarryIn` 1. -/
theorem test_decode_sinks : ([0xD68F, 0xD69F, 0xD6A7, 0xD6AF, 0xD6B7, 0xD6BF, 0xD6C7, 0xD6CF, 0xD6D7, 0xD6DF, 0xD6E7, 0xD6EF, 0xD6F7, 0xD6FF] : List Nat).map (decodeTableWord 16) = [
    some (.awD .bp .d .sp ⟨5, .logic, true⟩),
    some (.awMem .bp .d .sp ⟨5, .logic, true⟩),
    some (.awOut .bp .d .sp ⟨5, .logic, true⟩),
    some (.awPc .bp .d .sp ⟨5, .logic, true⟩),
    some (.awSp .bp .d .sp ⟨5, .logic, true⟩),
    some (.awBp .bp .d .sp ⟨5, .logic, true⟩),
    some (.awMa .bp .d .sp ⟨5, .logic, true⟩),
    some (.awPcInc .bp .d .sp ⟨5, .logic, true⟩),
    some (.awSpInc .bp .d .sp ⟨5, .logic, true⟩),
    some (.awSpDec .bp .d .sp ⟨5, .logic, true⟩),
    some (.awBpInc .bp .d .sp ⟨5, .logic, true⟩),
    some (.awBpDec .bp .d .sp ⟨5, .logic, true⟩),
    some (.awRst .bp .d .sp ⟨5, .logic, true⟩),
    some (.awAdv .bp .d .sp ⟨5, .logic, true⟩)] := by decide +kernel

/-- Source rows under the sink `AW.REG`: `CW[2:0]` with `busC` 3, `CW[7]`, `CW[9:8]`; and the word 0x0000 (V-COD-2). -/
theorem test_decode_sources : ([0x2701, 0x2702, 0x2703, 0x2704, 0x2705, 0x2706, 0x2707, 0x2480, 0x2580, 0x2680, 0x2780, 0x0000] : List Nat).map (decodeTableWord 16) = [
    some (.arD .reg .reg .bp ⟨9, .arith, false⟩),
    some (.arIn .reg .reg .bp ⟨9, .arith, false⟩),
    some (.arT .reg .reg .bp ⟨9, .arith, false⟩),
    some (.arMem .reg .reg .bp ⟨9, .arith, false⟩),
    some (.arPc .reg .reg .bp ⟨9, .arith, false⟩),
    some (.arSp .reg .reg .bp ⟨9, .arith, false⟩),
    some (.arBp .reg .reg .bp ⟨9, .arith, false⟩),
    some (.bbD .reg .reg .pc ⟨9, .arith, false⟩),
    some (.bcMa .reg .reg .d ⟨9, .arith, false⟩),
    some (.bcSp .reg .reg .d ⟨9, .arith, false⟩),
    some (.bcBp .reg .reg .d ⟨9, .arith, false⟩),
    some (.awReg .reg .reg .pc ⟨0, .arith, false⟩)] := by decide +kernel

/-- ALU-function rows, `CW[14]` = 0: `CW[13:10]` the function, sink 2, `busAR` 3, `busC` 1, odd functions with `aluCarryIn`. -/
theorem test_decode_arith : ([0x0113, 0x8513, 0x0913, 0x8D13, 0x1113, 0x9513, 0x1913, 0x9D13, 0x2113, 0xA513, 0x2913, 0xAD13, 0x3113, 0xB513, 0x3913, 0xBD13] : List Nat).map (decodeTableWord 16) = [
    some (.arith0 .t .reg .ma false),
    some (.arith1 .t .reg .ma true),
    some (.arith2 .t .reg .ma false),
    some (.arith3 .t .reg .ma true),
    some (.arith4 .t .reg .ma false),
    some (.arith5 .t .reg .ma true),
    some (.arith6 .t .reg .ma false),
    some (.arith7 .t .reg .ma true),
    some (.arith8 .t .reg .ma false),
    some (.arith9 .t .reg .ma true),
    some (.arith10 .t .reg .ma false),
    some (.arith11 .t .reg .ma true),
    some (.arith12 .t .reg .ma false),
    some (.arith13 .t .reg .ma true),
    some (.arith14 .t .reg .ma false),
    some (.arith15 .t .reg .ma true)] := by decide +kernel

/-- ALU-function rows, `CW[14]` = 1: `CW[13:10]` the function, sink 2, `busAR` 3, `busC` 1, odd functions with `aluCarryIn`. -/
theorem test_decode_logic : ([0x4113, 0xC513, 0x4913, 0xCD13, 0x5113, 0xD513, 0x5913, 0xDD13, 0x6113, 0xE513, 0x6913, 0xED13, 0x7113, 0xF513, 0x7913, 0xFD13] : List Nat).map (decodeTableWord 16) = [
    some (.logic0 .t .reg .ma false),
    some (.logic1 .t .reg .ma true),
    some (.logic2 .t .reg .ma false),
    some (.logic3 .t .reg .ma true),
    some (.logic4 .t .reg .ma false),
    some (.logic5 .t .reg .ma true),
    some (.logic6 .t .reg .ma false),
    some (.logic7 .t .reg .ma true),
    some (.logic8 .t .reg .ma false),
    some (.logic9 .t .reg .ma true),
    some (.logic10 .t .reg .ma false),
    some (.logic11 .t .reg .ma true),
    some (.logic12 .t .reg .ma false),
    some (.logic13 .t .reg .ma true),
    some (.logic14 .t .reg .ma false),
    some (.logic15 .t .reg .ma true)] := by decide +kernel

/-- Words the spec packs (V-COD-1, V-COD-3 to V-COD-10) and the fields it gives them. -/
theorem test_decode_codec_vectors : ([0x007C, 0xFFFF, 0x2410, 0x9890, 0x6810, 0x029D, 0x00C4, 0x0070, 0x0002] : List Nat).map
    (decodeTableWord 16) = [
    some .fetch,
    some (.awAdv .bp .d .bp ⟨15, .logic, true⟩),
    some (.arith9 .reg .reg .pc false),
    some (.arith6 .reg .d .pc true),
    some (.logic10 .reg .reg .pc false),
    some (.awMem .pc .d .sp ⟨0, .arith, false⟩),
    some (.awMa .mem .d .pc ⟨0, .arith, false⟩),
    some (.awRst .reg .reg .pc ⟨0, .arith, false⟩),
    some (.arIn .reg .reg .pc ⟨0, .arith, false⟩)] := by decide +kernel

/-- The four rows that the decoder never names because another row of the same word is named (log entry 3): the word is
read by them too. -/
theorem test_decode_rows_never_named :
    .arReg .d .reg .pc ⟨0, .arith, false⟩ ∈ (ControlWord.unpack 0x0008).readings ∧
    .bbReg .d .d .pc ⟨0, .arith, false⟩ ∈ (ControlWord.unpack 0x0009).readings ∧
    .bcPc .d .d .reg ⟨0, .arith, false⟩ ∈ (ControlWord.unpack 0x0009).readings ∧
    .awAlu .d .d .sp ⟨9, .arith, true⟩ ∈ (ControlWord.unpack 0xA691).readings := by decide +kernel

/-- Opcode rows (R261): `rr` in bits 1:0, `ss` in bits 3:2. -/
theorem test_decode_opcodes : ([0x00, 0x01, 0x02, 0x03, 0x06, 0x0B, 0x0D, 0x1B, 0x24, 0x33, 0x36, 0x39, 0x3C, 0x47, 0x58, 0x6D, 0x70, 0x71, 0x72, 0x73, 0x74, 0x75, 0x76, 0x77, 0x7A, 0x7D, 0x82, 0x92, 0x95, 0x9B, 0x9D, 0xA0, 0xA1, 0xA2, 0xA3, 0xA6, 0xA8, 0xAC, 0xAF, 0xB1, 0xB5, 0xBA, 0xBF, 0xC0, 0xFF] : List Nat).map (decodeTableWord 8) = [
    some (.nop),
    some (.hlt),
    some (.unassigned02 0x02),
    some (.unassigned02 0x03),
    some (.outR .X),
    some (.inR .Y),
    some (.movi .B 0),
    some (.add .Y .X),
    some (.sub .A .B),
    some (.addi .Y 0),
    some (.subi .X 0),
    some (.adci .B 0),
    some (.cmpi .A 0),
    some (.and .Y .B),
    some (.or .A .X),
    some (.xor .B .Y),
    some (.jmp 0),
    some (.jc 0),
    some (.jnc 0),
    some (.jz 0),
    some (.jnz 0),
    some (.call 0),
    some (.ret),
    some (.unassigned77),
    some (.inc .X),
    some (.dec .B),
    some (.mov .X .A),
    some (.ld .X 0),
    some (.st .B 0),
    some (.push .Y),
    some (.pop .B),
    some (.movbp 0),
    some (.movsp 0),
    some (.incbp),
    some (.decbp),
    some (.ldbp .X),
    some (.stbp .A),
    some (.unassignedAC 0xAC),
    some (.unassignedAC 0xAF),
    some (.movbpl .B),
    some (.movbph .B),
    some (.movspl .X),
    some (.movsph .Y),
    some (.unassignedC0 0xC0),
    some (.unassignedC0 0xFF)] := by decide +kernel

/-- Operand bytes, an address low byte first (R82), and the bytes that are left. -/
theorem test_decode_operands :
    decode .op8 [0x0D, 0x80, 0x99] = .ok (.movi .B 0x80, [0x99]) ∧
    decode .op8 [0x70, 0x04, 0x12] = .ok (.jmp 0x1204, []) ∧
    decode .op8 [0xA1, 0x34, 0x12, 0x00] = .ok (.movsp 0x1234, [0x00]) := ⟨rfl, rfl, rfl⟩

/-- Bytes that hold no instruction, refused by name. -/
theorem test_decode_refuses :
    decode .cw [0x7C] = .error .halfControlWord ∧ decode .op8 [] = .error .noBytes ∧
    decode .op8 [0x70, 0x04] = .error (.operandMissing 0x70) ∧ decode .op8 [0x30] = .error (.operandMissing 0x30) ∧
    decodeTableWord 24 0 = none := by
  refine ⟨rfl, rfl, rfl, rfl, rfl⟩

/-! ### The address of the control word (V-RA-3 to V-RA-9) -/

/-- A state with the parts of the control-store address. -/
def addressed (i : Byte) (cycle : BitVec 4) (c0 z0 c1 z1 : Bool) : State :=
  { State.reset with regI := i, cycle := cycle, c0 := c0, z0 := z0, c1 := c1, z1 := z1 }

theorem test_romAddr :
    [addressed 0x30 2 false false false false, addressed 0x38 2 true false false false,
      addressed 0x74 0 true true false false, addressed 0x82 1 true true false false,
      addressed 0x82 1 false false true false, addressed 0xFF 15 false false true true,
      addressed 0x7F 15 true true false false].map (fun s => s.romAddr.toNat) =
    [0x0C08, 0x0E0A, 0x1D03, 0x2084, 0x2086, 0x3FFF, 0x1FFF] := by decide

/-! ### Sources (V-SRC-1 to V-SRC-20) -/

/-- The state of the source vectors. -/
def sourceState : State :=
  { State.reset with
    regI := 0x1B, regA := 0x11, regB := 0x22, regX := 0x33, regY := 0x44, regD := 0x55, regT := 0x66, regIN := 0x3A
    pc := 0x0102, sp := 0xFFFE, bp := 0x2345, ma := 0x2000
    ram := [(0x2000, 0x88), (0x2345, 0x99), (0xFFFE, 0xAA)]
    cfg := { defaultConfig with boot := [(0x0102, 0x77)] } }

theorem test_address_sources :
    [BusC.pc, .ma, .sp, .bp].map (fun c => abus c sourceState) = [0x0102, 0x2000, 0xFFFE, 0x2345] := by decide
theorem test_memory_sources :
    [BusC.pc, .ma, .sp, .bp].map (fun c => busA .mem .reg (abus c sourceState) sourceState) =
      [0x77, 0x88, 0xAA, 0x99] := by decide
theorem test_low_sources :
    [BusAR.reg, .d, .input, .t, .pc, .sp, .bp].map (fun a => busA a .reg 0 sourceState) =
      [0x44, 0x55, 0x3A, 0x66, 0x02, 0xFE, 0x45] := by decide
theorem test_high_sources :
    [BusAR.pc, .sp, .bp].map (fun a => busA a .d 0 sourceState) = [0x01, 0xFF, 0x23] := by decide
theorem test_secondary_sources : [BusB.reg, .d].map (fun b => busBv b sourceState) = [0x33, 0x55] := by decide

/-- Each source row drives `D` with what its row names. -/
theorem test_source_rows :
    ([execArReg .d .reg .pc, execArD .d .reg .pc, execArIn .d .reg .pc, execArT .d .reg .pc, execArMem .d .reg .ma,
      execArPc .d .d .pc, execArSp .d .reg .pc, execArBp .d .d .pc].map
        fun f => got (f ⟨0, .arith, false⟩ sourceState) (fun t => t.regD)) =
      [some 0x44, some 0x55, some 0x3A, some 0x66, some 0x88, some 0x01, some 0xFE, some 0x23] ∧
    ([execBcPc .mem .d .reg, execBcMa .mem .d .reg, execBcSp .mem .d .reg, execBcBp .mem .d .reg].map
        fun f => got (f ⟨0, .arith, false⟩ sourceState) (fun t => t.regD)) =
      [some 0x77, some 0x88, some 0xAA, some 0x99] ∧
    ([execBbReg .reg .alu .pc, execBbD .reg .alu .pc].map
        fun f => got (f ⟨10, .logic, false⟩ sourceState) (fun t => t.regT)) = [some 0x33, some 0x55] := by decide +kernel

/-! ### Sinks, one micro-cycle each (V-SNK-1 to V-SNK-27): the expected state is the vector's, with one tick -/

/-- The state `base` of the sink vectors. -/
def base : State :=
  { State.reset with
    regI := 0x06, regA := 0x11, regB := 0x22, regX := 0x33, regY := 0x44, regD := 0x55, regT := 0x66, regIN := 0x3A
    pc := 0x0102, sp := 0xFFFE, bp := 0x2345, ma := 0x2000, cycle := 3 }

/-- The state after the micro-cycle of a control word. -/
def after (w : CtrlBits) (s : State) : Option State := got (exec (decodeControl w) s) id

/-- V-SNK-1. -/
theorem test_sink_1 : after 0x0001 base =
    some { base with regX := 0x55, cycle := 4, tick := 1 } := by decide +kernel
/-- V-SNK-2. -/
theorem test_sink_2 : after 0x0000 base =
    some { base with cycle := 4, tick := 1 } := by decide +kernel
/-- V-SNK-3. -/
theorem test_sink_3 : after 0x000C { base with cfg := { defaultConfig with boot := [(0x0102, 0x77)] } } =
    some { base with regD := 0x77, cycle := 4, tick := 1, cfg := { defaultConfig with boot := [(0x0102, 0x77)] } } := by decide +kernel
/-- V-SNK-4. -/
theorem test_sink_4 : after 0x2410 { base with regI := 0x16 } =
    some { base with regI := 0x16, regT := 0x55, cycle := 4, tick := 1 } := by decide +kernel
/-- V-SNK-5. -/
theorem test_sink_5 : after 0x9890 { base with regI := 0x96, c0 := true, z0 := true } =
    some { base with regI := 0x96, c0 := true, z0 := true, regT := 0xDE, cycle := 4, tick := 1 } := by decide +kernel
/-- V-SNK-6. -/
theorem test_sink_6 : after 0x3013 { base with regI := 0x00, regT := 0xC0 } =
    some { base with regI := 0x00, regT := 0x80, c0 := true, cycle := 4, tick := 1 } := by decide +kernel
/-- V-SNK-7. -/
theorem test_sink_7 : after 0x0118 base =
    some { base with cycle := 4, tick := 1, ram := [(0x2000, 0x33)] } := by decide +kernel
/-- V-SNK-8. -/
theorem test_sink_8 : after 0x0018 base =
    some { base with cycle := 4, tick := 1 } := by decide +kernel
/-- V-SNK-9. -/
theorem test_sink_9 : after 0x011C { base with ram := [(0x2000, 0x88)] } =
    some { base with cycle := 4, tick := 1, ram := [(0x2000, 0x88)] } := by decide +kernel
/-- V-SNK-10. -/
theorem test_sink_10 : after 0x0020 base =
    some { base with regOUT := 0x33, cycle := 4, tick := 1, trace := [(1, 0x33)] } := by decide +kernel
/-- V-SNK-11. -/
theorem test_sink_11 : after 0x0029 base =
    some { base with pc := 0x0155, cycle := 4, tick := 1 } := by decide +kernel
/-- V-SNK-12. -/
theorem test_sink_12 : after 0x00A9 base =
    some { base with pc := 0x5502, cycle := 4, tick := 1 } := by decide +kernel
/-- V-SNK-13. -/
theorem test_sink_13 : after 0x0031 base =
    some { base with sp := 0xFF55, cycle := 4, tick := 1 } := by decide +kernel
/-- V-SNK-14. -/
theorem test_sink_14 : after 0x00B0 { base with regX := 0x12 } =
    some { base with regX := 0x12, cycle := 4, tick := 1 } := by decide +kernel
/-- V-SNK-15. -/
theorem test_sink_15 : after 0x00B9 base =
    some { base with bp := 0x5545, cycle := 4, tick := 1 } := by decide +kernel
/-- V-SNK-16. -/
theorem test_sink_16 : after 0x0047 base =
    some { base with ma := 0x2045, cycle := 4, tick := 1 } := by decide +kernel
/-- V-SNK-17. -/
theorem test_sink_17 : after 0x0048 { base with pc := 0xFFFF } =
    some { base with pc := 0x0000, cycle := 4, tick := 1 } := by decide +kernel
/-- V-SNK-18. -/
theorem test_sink_18 : after 0x0050 { base with sp := 0xFFFF } =
    some { base with sp := 0xFF00, cycle := 4, tick := 1 } := by decide +kernel
/-- V-SNK-19. -/
theorem test_sink_19 : after 0x0058 { base with sp := 0xFF00 } =
    some { base with sp := 0xFFFF, cycle := 4, tick := 1 } := by decide +kernel
/-- V-SNK-20. -/
theorem test_sink_20 : after 0x0060 { base with bp := 0xFFFF } =
    some { base with bp := 0x0000, cycle := 4, tick := 1 } := by decide +kernel
/-- V-SNK-21. -/
theorem test_sink_21 : after 0x0068 { base with bp := 0x0000 } =
    some { base with bp := 0xFFFF, cycle := 4, tick := 1 } := by decide +kernel
/-- V-SNK-22. -/
theorem test_sink_22 : after 0x0070 base =
    some { base with cycle := 0, tick := 1 } := by decide +kernel
/-- V-SNK-23. -/
theorem test_sink_23 : after 0x007C { base with cfg := { defaultConfig with boot := [(0x0102, 0x0C)] } } =
    some { base with regI := 0x0C, pc := 0x0103, cycle := 0, tick := 1, cfg := { defaultConfig with boot := [(0x0102, 0x0C)] } } := by decide +kernel
/-- V-SNK-24. -/
theorem test_sink_24 : after 0x007C { base with pc := 0xFFFF, ram := [(0xFFFF, 0x76)] } =
    some { base with pc := 0x0000, regI := 0x76, cycle := 0, tick := 1, ram := [(0xFFFF, 0x76)] } := by decide +kernel
/-- V-SNK-25. -/
theorem test_sink_25 : after 0x007B base =
    some { base with regI := 0x66, pc := 0x0103, cycle := 0, tick := 1 } := by decide +kernel
/-- V-SNK-26. -/
theorem test_sink_26 : after 0x0000 { base with cycle := 15 } =
    some { base with cycle := 0, tick := 1 } := by decide +kernel
/-- V-SNK-27, another `SP_BASE_HI`. -/
theorem test_sink_27 :
    (after 0x00B0 { base with sp := 0x80FE, regX := 0x12, cfg := { defaultConfig with spBaseHi := 0x80 } }).map (·.sp) =
      some 0x92FE ∧
    (after 0x0058 { base with sp := 0x8000, cfg := { defaultConfig with spBaseHi := 0x80 } }).map (·.sp) = some 0xFFFF ∧
    (after 0x0050 { base with sp := 0xFFFF, cfg := { defaultConfig with spBaseHi := 0x80 } }).map (·.sp) =
      some 0x8000 := by decide +kernel

/-! ### ALU -/

/-- `T`, carry and zero of bank 0 after a function row, its operands `A` and `B`. -/
def aluRow (f : BusAR → BusB → BusC → Bool → State → Result) (a b : Byte) (cin : Bool) : Option (Byte × Bool × Bool) :=
  got (f .reg .reg .pc cin { State.reset with regI := 0x04, regA := a, regB := b }) (fun t => (t.regT, t.c0, t.z0))

/-- The rows of `ARITH` in order. -/
def arithRows : List (BusAR → BusB → BusC → Bool → State → Result) :=
  [execArith0, execArith1, execArith2, execArith3, execArith4, execArith5, execArith6, execArith7, execArith8, execArith9, execArith10, execArith11, execArith12, execArith13, execArith14, execArith15]

/-- V-ALU-2, `Alu8(0x5A, 0x3C)` with `cin` 0. -/
theorem test_arith_plain : arithRows.map (fun f => aluRow f 0x5A 0x3C false) = [
    some (0x5A, false, false),
    some (0x7E, false, false),
    some (0xDB, false, false),
    some (0xFF, false, false),
    some (0x9C, false, false),
    some (0xC0, false, false),
    some (0x1D, true, false),
    some (0x41, true, false),
    some (0x72, false, false),
    some (0x96, false, false),
    some (0xF3, false, false),
    some (0x17, true, false),
    some (0xB4, false, false),
    some (0xD8, false, false),
    some (0x35, true, false),
    some (0x59, true, false)] := by decide +kernel

/-- V-ALU-2, `Alu8(0x5A, 0x3C)` with `cin` 1. -/
theorem test_arith_carry : arithRows.map (fun f => aluRow f 0x5A 0x3C true) = [
    some (0x5B, false, false),
    some (0x7F, false, false),
    some (0xDC, false, false),
    some (0x00, true, true),
    some (0x9D, false, false),
    some (0xC1, false, false),
    some (0x1E, true, false),
    some (0x42, true, false),
    some (0x73, false, false),
    some (0x97, false, false),
    some (0xF4, false, false),
    some (0x18, true, false),
    some (0xB5, false, false),
    some (0xD9, false, false),
    some (0x36, true, false),
    some (0x5A, true, false)] := by decide +kernel

/-- V-ALU-2, `Alu8(0x80, 0x80)` with `cin` 0. -/
theorem test_arith_corner : arithRows.map (fun f => aluRow f 0x80 0x80 false) = [
    some (0x80, false, false),
    some (0x80, false, false),
    some (0xFF, false, false),
    some (0xFF, false, false),
    some (0x80, false, false),
    some (0x80, false, false),
    some (0xFF, false, false),
    some (0xFF, false, false),
    some (0x00, true, true),
    some (0x00, true, true),
    some (0x7F, true, false),
    some (0x7F, true, false),
    some (0x00, true, true),
    some (0x00, true, true),
    some (0x7F, true, false),
    some (0x7F, true, false)] := by decide +kernel

/-- The rows of `LOGIC` in order. -/
def logicRows : List (BusAR → BusB → BusC → Bool → State → Result) :=
  [execLogic0, execLogic1, execLogic2, execLogic3, execLogic4, execLogic5, execLogic6, execLogic7, execLogic8, execLogic9, execLogic10, execLogic11, execLogic12, execLogic13, execLogic14, execLogic15]

/-- V-ALU-2, `Alu8(0x5A, 0x3C)` with `cin` 0. -/
theorem test_logic_plain : logicRows.map (fun f => aluRow f 0x5A 0x3C false) = [
    some (0xA5, false, false),
    some (0x81, false, false),
    some (0x24, false, false),
    some (0x00, false, true),
    some (0xE7, false, false),
    some (0xC3, false, false),
    some (0x66, true, false),
    some (0x42, true, false),
    some (0xBD, false, false),
    some (0x99, false, false),
    some (0x3C, false, false),
    some (0x18, true, false),
    some (0xFF, false, false),
    some (0xDB, false, false),
    some (0x7E, true, false),
    some (0x5A, true, false)] := by decide +kernel

/-- V-ALU-2, `Alu8(0x5A, 0x3C)` with `cin` 1. -/
theorem test_logic_carry : logicRows.map (fun f => aluRow f 0x5A 0x3C true) = [
    some (0xA5, false, false),
    some (0x81, false, false),
    some (0x24, false, false),
    some (0x00, true, true),
    some (0xE7, false, false),
    some (0xC3, false, false),
    some (0x66, true, false),
    some (0x42, true, false),
    some (0xBD, false, false),
    some (0x99, false, false),
    some (0x3C, false, false),
    some (0x18, true, false),
    some (0xFF, false, false),
    some (0xDB, false, false),
    some (0x7E, true, false),
    some (0x5A, true, false)] := by decide +kernel

/-- V-ALU-2, `Alu8(0x80, 0x80)` with `cin` 0. -/
theorem test_logic_corner : logicRows.map (fun f => aluRow f 0x80 0x80 false) = [
    some (0x7F, false, false),
    some (0x7F, false, false),
    some (0x00, false, true),
    some (0x00, false, true),
    some (0x7F, false, false),
    some (0x7F, false, false),
    some (0x00, false, true),
    some (0x00, false, true),
    some (0xFF, true, false),
    some (0xFF, true, false),
    some (0x80, true, false),
    some (0x80, true, false),
    some (0xFF, true, false),
    some (0xFF, true, false),
    some (0x80, true, false),
    some (0x80, true, false)] := by decide +kernel

/-! ### XREF-1, one instruction each (the vectors V-X): the expected state is the vector's, with its ticks -/

/-- An instruction boundary at 0x3001 with the bytes after the opcode and the state of a vector. -/
def boundary (op : Byte) (s : State) : State := { s with regI := op, pc := 0x3001, mode := .instruction }

/-- The vectors' common state: everything at its reset value. -/
def zero : State := State.reset

/-- The next state of a step. -/
def stepped (s : State) : Option State := got (step s) id

/-- V-X-NOP, `NOP`. -/
theorem test_xref_nop : stepped (boundary 0x00 { zero with ram := [(0x3001, 0x01)] }) =
    some { zero with regI := 0x01, pc := 0x3002, mode := .instruction, tick := 1, ram := [(0x3001, 0x01)] } := by decide +kernel
/-- V-X-UNASSIGNED, `(opcode 0xC5)`. -/
theorem test_xref_unassigned : stepped (boundary 0xC5 { zero with regA := 0x12, c1 := true, ram := [(0x3001, 0x01)] }) =
    some { zero with regI := 0x01, regA := 0x12, c1 := true, pc := 0x3002, mode := .instruction, tick := 1, ram := [(0x3001, 0x01)] } := by decide +kernel
/-- V-X-OUT, `OUT X`. -/
theorem test_xref_out : stepped (boundary 0x06 { zero with regX := 0x5A, ram := [(0x3001, 0x01)] }) =
    some { zero with regI := 0x01, regX := 0x5A, regOUT := 0x5A, pc := 0x3002, mode := .instruction, tick := 2, trace := [(1, 0x5A)], ram := [(0x3001, 0x01)] } := by decide +kernel
/-- V-X-IN, `IN Y`. -/
theorem test_xref_in : stepped (boundary 0x0B { zero with regIN := 0xC7, ram := [(0x3001, 0x01)] }) =
    some { zero with regI := 0x01, regIN := 0xC7, regY := 0xC7, pc := 0x3002, mode := .instruction, tick := 2, ram := [(0x3001, 0x01)] } := by decide +kernel
/-- V-X-MOVI, `MOVI B, 0x80`. -/
theorem test_xref_movi : stepped (boundary 0x0D { zero with c0 := true, z0 := true, ram := [(0x3001, 0x80), (0x3002, 0x01)] }) =
    some { zero with regI := 0x01, c0 := true, z0 := true, regB := 0x80, pc := 0x3003, mode := .instruction, tick := 3, ram := [(0x3001, 0x80), (0x3002, 0x01)] } := by decide +kernel
/-- V-X-ADD1, `ADD A, B`. -/
theorem test_xref_add1 : stepped (boundary 0x14 { zero with regA := 0x05, regB := 0x03, ram := [(0x3001, 0x01)] }) =
    some { zero with regI := 0x01, regA := 0x08, regB := 0x03, regT := 0x08, pc := 0x3002, mode := .instruction, tick := 3, ram := [(0x3001, 0x01)] } := by decide +kernel
/-- V-X-ADD2, `ADD A, B`. -/
theorem test_xref_add2 : stepped (boundary 0x14 { zero with regA := 0xFF, regB := 0x01, ram := [(0x3001, 0x01)] }) =
    some { zero with regI := 0x01, regA := 0x00, regB := 0x01, pc := 0x3002, c0 := true, z0 := true, mode := .instruction, tick := 3, ram := [(0x3001, 0x01)] } := by decide +kernel
/-- V-X-SUB1, `SUB A, B`. -/
theorem test_xref_sub1 : stepped (boundary 0x24 { zero with regA := 0x05, regB := 0x03, ram := [(0x3001, 0x01)] }) =
    some { zero with regI := 0x01, regA := 0x02, regB := 0x03, regT := 0x02, pc := 0x3002, c0 := true, mode := .instruction, tick := 3, ram := [(0x3001, 0x01)] } := by decide +kernel
/-- V-X-SUB2, `SUB A, B`. -/
theorem test_xref_sub2 : stepped (boundary 0x24 { zero with regA := 0x03, regB := 0x05, ram := [(0x3001, 0x01)] }) =
    some { zero with regI := 0x01, regA := 0xFE, regB := 0x05, regT := 0xFE, pc := 0x3002, mode := .instruction, tick := 3, ram := [(0x3001, 0x01)] } := by decide +kernel
/-- V-X-AND1, `AND A, B`. -/
theorem test_xref_and1 : stepped (boundary 0x44 { zero with regA := 0x3A, regB := 0x0F, ram := [(0x3001, 0x01)] }) =
    some { zero with regI := 0x01, regA := 0x0A, regB := 0x0F, regT := 0x0A, pc := 0x3002, c0 := true, mode := .instruction, tick := 3, ram := [(0x3001, 0x01)] } := by decide +kernel
/-- V-X-AND2, `AND A, B`. -/
theorem test_xref_and2 : stepped (boundary 0x44 { zero with regA := 0xF0, regB := 0x0F, c0 := true, ram := [(0x3001, 0x01)] }) =
    some { zero with regI := 0x01, regA := 0x00, regB := 0x0F, c0 := false, pc := 0x3002, z0 := true, mode := .instruction, tick := 3, ram := [(0x3001, 0x01)] } := by decide +kernel
/-- V-X-OR1, `OR X, Y`. -/
theorem test_xref_or1 : stepped (boundary 0x5E { zero with regX := 0xF0, regY := 0x0F, ram := [(0x3001, 0x01)] }) =
    some { zero with regI := 0x01, regX := 0xFF, regY := 0x0F, regT := 0xFF, pc := 0x3002, c0 := true, mode := .instruction, tick := 3, ram := [(0x3001, 0x01)] } := by decide +kernel
/-- V-X-OR2, `OR X, Y`. -/
theorem test_xref_or2 : stepped (boundary 0x5E { zero with regX := 0x00, regY := 0x00, c0 := true, ram := [(0x3001, 0x01)] }) =
    some { zero with regI := 0x01, regX := 0x00, regY := 0x00, c0 := false, pc := 0x3002, z0 := true, mode := .instruction, tick := 3, ram := [(0x3001, 0x01)] } := by decide +kernel
/-- V-X-XOR1, `XOR A, A`. -/
theorem test_xref_xor1 : stepped (boundary 0x60 { zero with regA := 0x5A, ram := [(0x3001, 0x01)] }) =
    some { zero with regI := 0x01, regA := 0x00, pc := 0x3002, z0 := true, mode := .instruction, tick := 3, ram := [(0x3001, 0x01)] } := by decide +kernel
/-- V-X-XOR2, `XOR A, B`. -/
theorem test_xref_xor2 : stepped (boundary 0x64 { zero with regA := 0xAA, regB := 0x55, ram := [(0x3001, 0x01)] }) =
    some { zero with regI := 0x01, regA := 0xFF, regB := 0x55, regT := 0xFF, pc := 0x3002, c0 := true, mode := .instruction, tick := 3, ram := [(0x3001, 0x01)] } := by decide +kernel
/-- V-X-ADDI, `ADDI A, 0x03`. -/
theorem test_xref_addi : stepped (boundary 0x30 { zero with regA := 0x05, ram := [(0x3001, 0x03), (0x3002, 0x01)] }) =
    some { zero with regI := 0x01, regA := 0x08, regD := 0x03, regT := 0x08, pc := 0x3003, mode := .instruction, tick := 5, ram := [(0x3001, 0x03), (0x3002, 0x01)] } := by decide +kernel
/-- V-X-ADDI2, `ADDI Y, 0x01`. -/
theorem test_xref_addi2 : stepped (boundary 0x33 { zero with regY := 0xFF, ram := [(0x3001, 0x01), (0x3002, 0x01)] }) =
    some { zero with regI := 0x01, regY := 0x00, regD := 0x01, pc := 0x3003, c0 := true, z0 := true, mode := .instruction, tick := 5, ram := [(0x3001, 0x01), (0x3002, 0x01)] } := by decide +kernel
/-- V-X-SUBI, `SUBI B, 0x01`. -/
theorem test_xref_subi : stepped (boundary 0x35 { zero with regB := 0x00, ram := [(0x3001, 0x01), (0x3002, 0x01)] }) =
    some { zero with regI := 0x01, regB := 0xFF, regD := 0x01, regT := 0xFF, pc := 0x3003, mode := .instruction, tick := 5, ram := [(0x3001, 0x01), (0x3002, 0x01)] } := by decide +kernel
/-- V-X-ADCI1, `ADCI B, 0x00`. -/
theorem test_xref_adci1 : stepped (boundary 0x39 { zero with regB := 0x01, c0 := true, z0 := true, ram := [(0x3002, 0x01)] }) =
    some { zero with regI := 0x01, regB := 0x02, c0 := false, z0 := false, regT := 0x02, pc := 0x3003, mode := .instruction, tick := 5, ram := [(0x3002, 0x01)] } := by decide +kernel
/-- V-X-ADCI3, `ADCI A, 0xFF`. -/
theorem test_xref_adci3 : stepped (boundary 0x38 { zero with regA := 0xFF, c0 := true, ram := [(0x3001, 0xFF), (0x3002, 0x01)] }) =
    some { zero with regI := 0x01, regA := 0xFF, c0 := true, regD := 0xFF, regT := 0xFF, pc := 0x3003, mode := .instruction, tick := 5, ram := [(0x3001, 0xFF), (0x3002, 0x01)] } := by decide +kernel
/-- V-X-CMPI1, `CMPI A, 0x42`. -/
theorem test_xref_cmpi1 : stepped (boundary 0x3C { zero with regA := 0x42, ram := [(0x3001, 0x42), (0x3002, 0x01)] }) =
    some { zero with regI := 0x01, regA := 0x42, regD := 0x42, pc := 0x3003, c0 := true, z0 := true, mode := .instruction, tick := 4, ram := [(0x3001, 0x42), (0x3002, 0x01)] } := by decide +kernel
/-- V-X-CMPI3, `CMPI A, 0x41`. -/
theorem test_xref_cmpi3 : stepped (boundary 0x3C { zero with regA := 0x42, ram := [(0x3001, 0x41), (0x3002, 0x01)] }) =
    some { zero with regI := 0x01, regA := 0x42, regD := 0x41, regT := 0x01, pc := 0x3003, c0 := true, mode := .instruction, tick := 4, ram := [(0x3001, 0x41), (0x3002, 0x01)] } := by decide +kernel
/-- V-X-JMP, `JMP 0x4000`. -/
theorem test_xref_jmp : stepped (boundary 0x70 { zero with ram := [(0x3002, 0x40), (0x3003, 0x01), (0x4000, 0x04)] }) =
    some { zero with regI := 0x04, pc := 0x4001, mode := .instruction, tick := 5, ram := [(0x3002, 0x40), (0x3003, 0x01), (0x4000, 0x04)] } := by decide +kernel
/-- V-X-JC-T, `JC 0x4000`. -/
theorem test_xref_jc_t : stepped (boundary 0x71 { zero with c0 := true, ram := [(0x3002, 0x40), (0x3003, 0x01), (0x4000, 0x04)] }) =
    some { zero with regI := 0x04, c0 := true, pc := 0x4001, mode := .instruction, tick := 5, ram := [(0x3002, 0x40), (0x3003, 0x01), (0x4000, 0x04)] } := by decide +kernel
/-- V-X-JC-N, `JC 0x4000`. -/
theorem test_xref_jc_n : stepped (boundary 0x71 { zero with c0 := false, c1 := true, ram := [(0x3002, 0x40), (0x3003, 0x01), (0x4000, 0x04)] }) =
    some { zero with regI := 0x01, c0 := false, c1 := true, pc := 0x3004, mode := .instruction, tick := 3, ram := [(0x3002, 0x40), (0x3003, 0x01), (0x4000, 0x04)] } := by decide +kernel
/-- V-X-JNC-T, `JNC 0x4000`. -/
theorem test_xref_jnc_t : stepped (boundary 0x72 { zero with c0 := false, z0 := true, ram := [(0x3002, 0x40), (0x3003, 0x01), (0x4000, 0x04)] }) =
    some { zero with regI := 0x04, c0 := false, z0 := true, pc := 0x4001, mode := .instruction, tick := 5, ram := [(0x3002, 0x40), (0x3003, 0x01), (0x4000, 0x04)] } := by decide +kernel
/-- V-X-JNC-N, `JNC 0x4000`. -/
theorem test_xref_jnc_n : stepped (boundary 0x72 { zero with c0 := true, ram := [(0x3002, 0x40), (0x3003, 0x01), (0x4000, 0x04)] }) =
    some { zero with regI := 0x01, c0 := true, pc := 0x3004, mode := .instruction, tick := 3, ram := [(0x3002, 0x40), (0x3003, 0x01), (0x4000, 0x04)] } := by decide +kernel
/-- V-X-JZ-T, `JZ 0x4000`. -/
theorem test_xref_jz_t : stepped (boundary 0x73 { zero with z0 := true, ram := [(0x3002, 0x40), (0x3003, 0x01), (0x4000, 0x04)] }) =
    some { zero with regI := 0x04, z0 := true, pc := 0x4001, mode := .instruction, tick := 5, ram := [(0x3002, 0x40), (0x3003, 0x01), (0x4000, 0x04)] } := by decide +kernel
/-- V-X-JZ-N, `JZ 0x4000`. -/
theorem test_xref_jz_n : stepped (boundary 0x73 { zero with z0 := false, z1 := true, ram := [(0x3002, 0x40), (0x3003, 0x01), (0x4000, 0x04)] }) =
    some { zero with regI := 0x01, z0 := false, z1 := true, pc := 0x3004, mode := .instruction, tick := 3, ram := [(0x3002, 0x40), (0x3003, 0x01), (0x4000, 0x04)] } := by decide +kernel
/-- V-X-JNZ-T, `JNZ 0x4000`. -/
theorem test_xref_jnz_t : stepped (boundary 0x74 { zero with z0 := false, c0 := true, ram := [(0x3002, 0x40), (0x3003, 0x01), (0x4000, 0x04)] }) =
    some { zero with regI := 0x04, z0 := false, c0 := true, pc := 0x4001, mode := .instruction, tick := 5, ram := [(0x3002, 0x40), (0x3003, 0x01), (0x4000, 0x04)] } := by decide +kernel
/-- V-X-JNZ-N, `JNZ 0x4000`. -/
theorem test_xref_jnz_n : stepped (boundary 0x74 { zero with z0 := true, ram := [(0x3002, 0x40), (0x3003, 0x01), (0x4000, 0x04)] }) =
    some { zero with regI := 0x01, z0 := true, pc := 0x3004, mode := .instruction, tick := 3, ram := [(0x3002, 0x40), (0x3003, 0x01), (0x4000, 0x04)] } := by decide +kernel
/-- V-X-CALL, `CALL 0x4000`. -/
theorem test_xref_call : stepped (boundary 0x75 { zero with sp := 0xFFFF, ram := [(0x3002, 0x40), (0x3003, 0x01), (0x4000, 0x76)] }) =
    some { zero with regI := 0x76, sp := 0xFFFD, pc := 0x4001, mode := .instruction, tick := 9, ram := [(0x3002, 0x40), (0x3003, 0x01), (0x4000, 0x76), (0xFFFD, 0x02), (0xFFFE, 0x30)] } := by decide +kernel
/-- V-X-CALL2, `CALL 0x4000`. -/
theorem test_xref_call2 : stepped (boundary 0x75 { zero with sp := 0xFF00, ram := [(0x3002, 0x40), (0x3003, 0x01), (0x4000, 0x76)] }) =
    some { zero with regI := 0x76, sp := 0xFFFE, pc := 0x4001, mode := .instruction, tick := 9, ram := [(0x3002, 0x40), (0x3003, 0x01), (0x4000, 0x76), (0xFFFE, 0x02), (0xFFFF, 0x30)] } := by decide +kernel
/-- V-X-RET, `RET`. -/
theorem test_xref_ret : stepped (boundary 0x76 { zero with sp := 0xFFFD, ram := [(0x3001, 0x01), (0x3003, 0x04), (0xFFFD, 0x02), (0xFFFE, 0x30)] }) =
    some { zero with regI := 0x04, sp := 0xFFFF, regD := 0x02, pc := 0x3004, mode := .instruction, tick := 7, ram := [(0x3001, 0x01), (0x3003, 0x04), (0xFFFD, 0x02), (0xFFFE, 0x30)] } := by decide +kernel
/-- V-X-INC1, `INC A`. -/
theorem test_xref_inc1 : stepped (boundary 0x78 { zero with regA := 0xFF, ram := [(0x3001, 0x01)] }) =
    some { zero with regI := 0x01, regA := 0x00, pc := 0x3002, c0 := true, z0 := true, mode := .instruction, tick := 3, ram := [(0x3001, 0x01)] } := by decide +kernel
/-- V-X-INC2, `INC X`. -/
theorem test_xref_inc2 : stepped (boundary 0x7A { zero with regX := 0x0F, ram := [(0x3001, 0x01)] }) =
    some { zero with regI := 0x01, regX := 0x10, regT := 0x10, pc := 0x3002, mode := .instruction, tick := 3, ram := [(0x3001, 0x01)] } := by decide +kernel
/-- V-X-DEC1, `DEC B`. -/
theorem test_xref_dec1 : stepped (boundary 0x7D { zero with regB := 0x00, ram := [(0x3001, 0x01)] }) =
    some { zero with regI := 0x01, regB := 0xFF, regT := 0xFF, pc := 0x3002, mode := .instruction, tick := 3, ram := [(0x3001, 0x01)] } := by decide +kernel
/-- V-X-DEC2, `DEC B`. -/
theorem test_xref_dec2 : stepped (boundary 0x7D { zero with regB := 0x01, ram := [(0x3001, 0x01)] }) =
    some { zero with regI := 0x01, regB := 0x00, pc := 0x3002, c0 := true, z0 := true, mode := .instruction, tick := 3, ram := [(0x3001, 0x01)] } := by decide +kernel
/-- V-X-MOV1, `MOV X, A`. -/
theorem test_xref_mov1 : stepped (boundary 0x82 { zero with regA := 0x22, regX := 0x99, c0 := true, z0 := true, ram := [(0x3001, 0x01)] }) =
    some { zero with regI := 0x01, regA := 0x22, regX := 0x22, c0 := true, z0 := true, regT := 0x22, pc := 0x3002, mode := .instruction, tick := 3, ram := [(0x3001, 0x01)] } := by decide +kernel
/-- V-X-MOV2, `MOV A, B`. -/
theorem test_xref_mov2 : stepped (boundary 0x84 { zero with regA := 0xFF, regB := 0x00, ram := [(0x3001, 0x01)] }) =
    some { zero with regI := 0x01, regA := 0x00, regB := 0x00, pc := 0x3002, z1 := true, mode := .instruction, tick := 3, ram := [(0x3001, 0x01)] } := by decide +kernel
/-- V-X-LD1, `LD X, 0x2000`. -/
theorem test_xref_ld1 : stepped (boundary 0x92 { zero with ram := [(0x2000, 0x0F), (0x3002, 0x20), (0x3003, 0x01)] }) =
    some { zero with regI := 0x01, regX := 0x0F, pc := 0x3004, ma := 0x2000, mode := .instruction, tick := 6, ram := [(0x2000, 0x0F), (0x3002, 0x20), (0x3003, 0x01)] } := by decide +kernel
/-- V-X-LD2, `LD A, 0x0010`. -/
theorem test_xref_ld2 : stepped (boundary 0x90 { zero with ram := [(0x3001, 0x10), (0x3003, 0x01)], cfg := { defaultConfig with boot := [(0x0010, 0xAB)] } }) =
    some { zero with regI := 0x01, regA := 0xAB, pc := 0x3004, ma := 0x0010, mode := .instruction, tick := 6, ram := [(0x3001, 0x10), (0x3003, 0x01)], cfg := { defaultConfig with boot := [(0x0010, 0xAB)] } } := by decide +kernel
/-- V-X-ST1, `ST A, 0x2000`. -/
theorem test_xref_st1 : stepped (boundary 0x94 { zero with regA := 0x0F, ram := [(0x3002, 0x20), (0x3003, 0x01)] }) =
    some { zero with regI := 0x01, regA := 0x0F, pc := 0x3004, ma := 0x2000, mode := .instruction, tick := 6, ram := [(0x2000, 0x0F), (0x3002, 0x20), (0x3003, 0x01)] } := by decide +kernel
/-- V-X-ST2, `ST A, 0x0100`. -/
theorem test_xref_st2 : stepped (boundary 0x94 { zero with regA := 0x0F, ram := [(0x3002, 0x01), (0x3003, 0x01)] }) =
    some { zero with regI := 0x01, regA := 0x0F, pc := 0x3004, ma := 0x0100, mode := .instruction, tick := 6, ram := [(0x3002, 0x01), (0x3003, 0x01)] } := by decide +kernel
/-- V-X-PUSH1, `PUSH A`. -/
theorem test_xref_push1 : stepped (boundary 0x98 { zero with regA := 0x11, ram := [(0x3001, 0x01)] }) =
    some { zero with regI := 0x01, regA := 0x11, pc := 0x3002, sp := 0xFFFF, mode := .instruction, tick := 3, ram := [(0x3001, 0x01), (0xFFFF, 0x11)] } := by decide +kernel
/-- V-X-PUSH2, `PUSH Y`. -/
theorem test_xref_push2 : stepped (boundary 0x9B { zero with regY := 0x44, sp := 0xFFFE, ram := [(0x3001, 0x01)] }) =
    some { zero with regI := 0x01, regY := 0x44, sp := 0xFFFD, pc := 0x3002, mode := .instruction, tick := 3, ram := [(0x3001, 0x01), (0xFFFD, 0x44)] } := by decide +kernel
/-- V-X-POP1, `POP B`. -/
theorem test_xref_pop1 : stepped (boundary 0x9D { zero with sp := 0xFFFF, ram := [(0x3001, 0x01), (0xFFFF, 0x11)] }) =
    some { zero with regI := 0x01, sp := 0xFF00, regB := 0x11, pc := 0x3002, mode := .instruction, tick := 3, ram := [(0x3001, 0x01), (0xFFFF, 0x11)] } := by decide +kernel
/-- V-X-POP2, `POP B`. -/
theorem test_xref_pop2 : stepped (boundary 0x9D { zero with sp := 0xFF00, ram := [(0x3001, 0x01), (0xFF00, 0x77)] }) =
    some { zero with regI := 0x01, sp := 0xFF01, regB := 0x77, pc := 0x3002, mode := .instruction, tick := 3, ram := [(0x3001, 0x01), (0xFF00, 0x77)] } := by decide +kernel
/-- V-X-MOVBP, `MOVBP 0x2010`. -/
theorem test_xref_movbp : stepped (boundary 0xA0 { zero with bp := 0xFFFF, ram := [(0x3001, 0x10), (0x3002, 0x20), (0x3003, 0x01)] }) =
    some { zero with regI := 0x01, bp := 0x2010, pc := 0x3004, mode := .instruction, tick := 5, ram := [(0x3001, 0x10), (0x3002, 0x20), (0x3003, 0x01)] } := by decide +kernel
/-- V-X-MOVSP, `MOVSP 0x1234`. -/
theorem test_xref_movsp : stepped (boundary 0xA1 { zero with ram := [(0x3001, 0x34), (0x3002, 0x12), (0x3003, 0x01)] }) =
    some { zero with regI := 0x01, pc := 0x3004, sp := 0xFF34, mode := .instruction, tick := 5, ram := [(0x3001, 0x34), (0x3002, 0x12), (0x3003, 0x01)] } := by decide +kernel
/-- V-X-INCBP, `INCBP`. -/
theorem test_xref_incbp : stepped (boundary 0xA2 { zero with bp := 0xFFFF, ram := [(0x3001, 0x01)] }) =
    some { zero with regI := 0x01, bp := 0x0000, pc := 0x3002, mode := .instruction, tick := 2, ram := [(0x3001, 0x01)] } := by decide +kernel
/-- V-X-DECBP, `DECBP`. -/
theorem test_xref_decbp : stepped (boundary 0xA3 { zero with bp := 0x0000, ram := [(0x3001, 0x01)] }) =
    some { zero with regI := 0x01, bp := 0xFFFF, pc := 0x3002, mode := .instruction, tick := 2, ram := [(0x3001, 0x01)] } := by decide +kernel
/-- V-X-LDBP, `LDBP X`. -/
theorem test_xref_ldbp : stepped (boundary 0xA6 { zero with bp := 0x2010, ram := [(0x2010, 0xAA), (0x3001, 0x01)] }) =
    some { zero with regI := 0x01, bp := 0x2010, regX := 0xAA, pc := 0x3002, mode := .instruction, tick := 2, ram := [(0x2010, 0xAA), (0x3001, 0x01)] } := by decide +kernel
/-- V-X-STBP, `STBP A`. -/
theorem test_xref_stbp : stepped (boundary 0xA8 { zero with bp := 0x2010, regA := 0xAA, ram := [(0x3001, 0x01)] }) =
    some { zero with regI := 0x01, bp := 0x2010, regA := 0xAA, pc := 0x3002, mode := .instruction, tick := 2, ram := [(0x2010, 0xAA), (0x3001, 0x01)] } := by decide +kernel
/-- V-X-STBP2, `STBP A`. -/
theorem test_xref_stbp2 : stepped (boundary 0xA8 { zero with bp := 0x0010, regA := 0xAA, ram := [(0x3001, 0x01)] }) =
    some { zero with regI := 0x01, bp := 0x0010, regA := 0xAA, pc := 0x3002, mode := .instruction, tick := 2, ram := [(0x3001, 0x01)] } := by decide +kernel
/-- V-X-MOVBPL, `MOVBPL A`. -/
theorem test_xref_movbpl : stepped (boundary 0xB0 { zero with bp := 0x2345, ram := [(0x3001, 0x01)] }) =
    some { zero with regI := 0x01, bp := 0x2345, regA := 0x45, pc := 0x3002, mode := .instruction, tick := 2, ram := [(0x3001, 0x01)] } := by decide +kernel
/-- V-X-MOVBPH, `MOVBPH B`. -/
theorem test_xref_movbph : stepped (boundary 0xB5 { zero with bp := 0x2345, ram := [(0x3001, 0x01)] }) =
    some { zero with regI := 0x01, bp := 0x2345, regB := 0x23, pc := 0x3002, mode := .instruction, tick := 2, ram := [(0x3001, 0x01)] } := by decide +kernel
/-- V-X-MOVSPL, `MOVSPL X`. -/
theorem test_xref_movspl : stepped (boundary 0xBA { zero with sp := 0xFF34, ram := [(0x3001, 0x01)] }) =
    some { zero with regI := 0x01, sp := 0xFF34, regX := 0x34, pc := 0x3002, mode := .instruction, tick := 2, ram := [(0x3001, 0x01)] } := by decide +kernel
/-- V-X-MOVSPH, `MOVSPH Y`. -/
theorem test_xref_movsph : stepped (boundary 0xBF { zero with sp := 0xFF34, ram := [(0x3001, 0x01)] }) =
    some { zero with regI := 0x01, sp := 0xFF34, regY := 0xFF, pc := 0x3002, mode := .instruction, tick := 2, ram := [(0x3001, 0x01)] } := by decide +kernel
/-- V-X-HLT. -/
theorem test_xref_hlt : stepped (boundary 0x01 zero) =
    some { zero with regI := 0x01, pc := 0x3001, mode := .instruction, tick := 1 } := by decide +kernel
/-- V-X-WRAP: the opcode at 0xFFFF, its operand at 0x0000. -/
theorem test_xref_wrap : (stepped { zero with
      regI := 0x0C, pc := 0x0000, mode := .instruction
      cfg := { defaultConfig with boot := [(0x0000, 0x77), (0x0001, 0x01)] } }).map (fun t => (t.regA, t.regI, t.pc)) =
    some (0x77, 0x01, 0x0002) := by decide +kernel
/-- R260, 0x77: as `NOP`. -/
theorem test_xref_unassigned77 : (stepped (boundary 0x77 { zero with ram := [(0x3001, 0x01)] })).map
    (fun t => (t.regI, t.pc, t.tick)) = some (0x01, 0x3002, 1) := by decide +kernel
/-- A push that hits the high operand byte of its own `CALL` is seen by the read of that byte (R241: each read after the
writes before it). -/
theorem test_xref_call_hits_operand : (stepped { zero with
      regI := 0x75, pc := 0xFF02, sp := 0xFF04, mode := .instruction, ram := [(0xFF02, 0x00), (0xFF03, 0x40)] }).map
    (fun t => (t.sp, t.pc)) = some (0xFF02, 0xFF01) := by decide +kernel

/-! ### Reset, the first micro-cycles, the clock and the collaborator (V-RST, V-CLK) -/

/-- V-RST-1. -/
theorem test_reset_values : (State.reset.sp, State.reset.pc, State.reset.regI, State.reset.cycle, State.reset.tick) =
    (0xFF00, 0x0000, 0x00, 0, 0) := by decide
/-- V-RST-2, first micro-cycle. -/
theorem test_first_micro_cycle : (stepped (State.resetWith { defaultConfig with boot := [(0, 0x0C), (1, 0x05)] })).map
    (fun t => (t.regI, t.pc, t.tick, t.cycle)) = some (0x0C, 0x0001, 1, 0) := by decide +kernel
/-- V-RST-2, second micro-cycle: step 0 of `MOVI A`. -/
theorem test_second_micro_cycle : (stepped { State.resetWith { defaultConfig with boot := [(0, 0x0C), (1, 0x05)] } with
      regI := 0x0C, pc := 0x0001, tick := 1 }).map (fun t => (t.regA, t.cycle, t.tick)) = some (0x05, 1, 2) := by
  decide +kernel
/-- V-CLK-1, micro-cycles 999 and 1000. -/
theorem test_clock_toggle :
    (stepped { zero with regI := 0x01, tick := 998 }).map (fun t => (t.tick, t.regIN)) = some (999, 0x00) ∧
    (stepped { zero with regI := 0x01, tick := 999 }).map (fun t => (t.tick, t.regIN)) = some (1000, 0x10) := by
  decide +kernel
/-- V-CLK-2, micro-cycle 4: `IN B` reads the bit before the toggle of its own micro-cycle. -/
theorem test_clock_read_before_toggle :
    (stepped { zero with regI := 0x09, tick := 3, cfg := { defaultConfig with clkTogglePeriod := 4 } }).map
      (fun t => (t.regB, t.regIN)) = some (0x00, 0x10) := by decide +kernel
/-- R307: the schedule's entry for a tick sets `IN[3:0]` and `IN[7:5]` before that micro-cycle and leaves `IN[4]`. -/
theorem test_input_schedule :
    (stepped { zero with regI := 0x08, regIN := 0x1F, tick := 5, cfg := { defaultConfig with inputs := [⟨5, 0x6, 2, 1⟩] } }).map
      (fun t => t.regA) = some 0xD6 := by decide +kernel

/-! ### Placing words (log entry 4) -/

theorem test_withFetchWord_control : (stepped (State.reset.withFetchWord 16 0x0048)).map (fun t => (t.pc, t.cycle)) =
    some (0x0001, 1) := by decide +kernel
theorem test_withFetchWord_opcode : (stepped (State.reset.withFetchWord 8 0x050C)).map (fun t => (t.regA, t.pc)) =
    some (0x05, 0x0002) := by decide +kernel

/-! ### The generator -/

/-- V-GEN-1. -/
theorem test_generator_widths :
    ([{}, ⟨.imm, .none, .none⟩, ⟨.addr, .none, .none⟩, ⟨.ab, .none, .none⟩, ⟨.abxy, .none, .none⟩, ⟨.abxy, .imm, .none⟩,
      ⟨.abxy, .addr, .none⟩, ⟨.abxy, .ab, .none⟩, ⟨.abxy, .abxy, .none⟩, ⟨.imm, .abxy, .none⟩, ⟨.abxy, .abxy, .abxy⟩,
      ⟨.imm, .addr, .abxy⟩] : List ArgKinds).map ArgKinds.width =
    [1, 1, 1, 2, 4, 4, 4, 8, 16, 4, 16, 1] := by decide

/-- A descriptor with one step. -/
def oneStep (op : Byte) (args : ArgKinds) : Descriptor := ⟨op, args, .any, .any, [0x007C]⟩

/-- R82: operand bytes in declared order, an address low byte first; no byte for a register. -/
theorem test_descriptor_operand_order :
    (oneStep 0xC0 ⟨.imm, .addr, .none⟩).encode [.imm 0x05, .addr 0x2010] = some [0xC0, 0x05, 0x10, 0x20] ∧
    (oneStep 0xC0 ⟨.addr, .abxy, .imm⟩).encode [.addr 0x2010, .reg .Y, .imm 0x05] = some [0xC3, 0x10, 0x20, 0x05] ∧
    (oneStep 0xC0 ⟨.imm, .addr, .none⟩).encode [.addr 0x2010, .imm 0x05] = none ∧
    (oneStep 0xC0 ⟨.imm, .addr, .none⟩).decode [0xC0, 0x05, 0x10, 0x20, 0x77] =
      some ([.imm 0x05, .addr 0x2010], [0x77]) := by decide
/-- R81: a narrow field is the low bit of its slot field, the base opcode fixes the pair; second field at bits 3:2. -/
theorem test_descriptor_register_fields :
    (oneStep 0xC0 ⟨.ab, .none, .none⟩).encode [.reg .B] = some [0xC1] ∧
    (oneStep 0xC2 ⟨.xy, .none, .none⟩).encode [.reg .Y] = some [0xC3] ∧
    (oneStep 0xC0 ⟨.xy, .none, .none⟩).encode [.reg .Y] = none ∧
    (oneStep 0xC0 ⟨.abxy, .ab, .none⟩).encode [.reg .X, .reg .B] = some [0xC6] ∧
    (oneStep 0x10 ⟨.abxy, .abxy, .none⟩).encode [.reg .Y, .reg .A] = some (encode (.add .Y .A)) ∧
    (oneStep 0x90 ⟨.abxy, .addr, .none⟩).encode [.reg .B, .addr 0x1234] = some (encode (.ld .B 0x1234)) := by decide
/-- R83, R261: the descriptors of XREF-1 have the lengths the decoder uses. -/
theorem test_descriptor_lengths :
    xrefDescriptors.all (fun d => d.opcodes.all fun op => decide (d.length = 1 + operandCount (BitVec.ofNat 8 op))) =
      true := by decide +kernel
/-- R203, R201: the descriptors that the generator turns away, and a block that ends at opcode 0xFF. -/
theorem test_generator_rejects :
    generate [oneStep 0xC0 ⟨.ab, .abxy, .none⟩] = .error (.narrowThenRegister 0xC0) ∧
    generate [oneStep 0xF8 ⟨.abxy, .abxy, .none⟩] = .error (.blockPastLastOpcode 0xF8) ∧
    (generate [oneStep 0xF0 ⟨.abxy, .abxy, .none⟩]).toOption.isSome = true := by
  refine ⟨by rfl, by rfl, by decide +kernel⟩

/-- The descriptor of V-GEN-2 with a given carry requirement. -/
def gated (c : FlagReq) : Descriptor := ⟨0x38, ⟨.abxy, .imm, .none⟩, c, .any, [0x0001, 0x0002, 0x0003]⟩

/-- V-GEN-2, the entries of opcode 0x38. -/
theorem test_generator_expansion : ((gated .enable).targets.length, (gated .enable).targets.take 6) =
    (24, [(0x0E02, 0x0001), (0x0E03, 0x0001), (0x0E06, 0x0002), (0x0E07, 0x0002), (0x0E0A, 0x0003), (0x0E0B, 0x0003)]) := by
  decide +kernel
/-- V-GEN-3, V-GEN-4. -/
theorem test_generator_collisions :
    ((generate [gated .enable, gated .disable]).toOption.isSome) = true ∧
    generate [gated .enable, gated .disable, ⟨0x3B, {}, .any, .any, [0x007C]⟩] = .error (.duplicateOpcode 0x3B 0) ∧
    generate [gated .enable, ⟨0x38, {}, .any, .enable, [0x007C]⟩] = .error (.duplicateOpcode 0x38 0) := by
  refine ⟨by decide +kernel, by rfl, by rfl⟩
/-- R262: 43 descriptors, 1620 entries that differ from the no-op word. -/
theorem test_xref_counts : 
    (xrefDescriptors.length, (xrefEntries.filter fun e => decide (e.2 ≠ 0x007C)).length) = (43, 1620) := by decide +kernel
/-- R262: `MOVI A` step 0 at 0x0300, the ALU step of `ADCI B` at 0x0E48 to 0x0E4B, and an entry of the upper half. -/
theorem test_xref_words : [0x0300, 0x0E48, 0x0E49, 0x0E4A, 0x0E4B, 0x4000].map xrefWordAt =
    [0x0004, 0x2490, 0x2490, 0xA490, 0xA490, 0x007C] := by decide +kernel
/-! ### A state and operands that meet the hypotheses of each statement -/

theorem witness_DecodeEncodeControlWord : (Instr.bbD .pc .pc .sp ⟨6, .logic, true⟩).control =
    some ⟨.pc, .pc, .d, .sp, ⟨6, .logic, true⟩⟩ := rfl
theorem witness_DecodeEncodeOpcode :
    (Instr.st .Y 0xFFFF).opcode = some 0x97 ∧ (Instr.st .Y 0xFFFF).wellFormed = true ∧
    (Instr.unassignedC0 0xFF).opcode = some 0xFF ∧ (Instr.unassignedC0 0xFF).wellFormed = true := by decide
theorem witness_EncodeDecode :
    decode .cw [0x98, 0xA6, 0x11] = .ok (.awMem .reg .d .sp ⟨9, .arith, true⟩, [0x11]) ∧
    decode .op8 [0x75, 0xFF, 0xFF] = .ok (.call 0xFFFF, []) := ⟨by rfl, by rfl⟩
theorem witness_ReadingsShareOneMeaning :
    Instr.fetch ∈ ControlWord.noop.readings ∧
    Instr.bcPc .mem .adv .reg ⟨0, .arith, false⟩ ∈ ControlWord.noop.readings := by decide
theorem witness_MicroCycleRunsControlWord :
    State.reset.mode = .tick ∧
    decode .cw [Memory.read (rom0Blank State.reset.cfg.fill) State.reset.cfg.rom0 State.reset.romAddr.toNat,
      Memory.read (rom1Blank State.reset.cfg.fill) State.reset.cfg.rom1 State.reset.romAddr.toNat] = .ok (.fetch, []) :=
  ⟨rfl, by rfl⟩

/-- A state at an instruction boundary, in instruction mode, of an opcode with operand bytes 0x34 and 0x40. -/
def atBoundary (op : Byte) : State := boundary op { zero with ram := [(0x3001, 0x34), (0x3002, 0x40)] }

theorem witness_InstructionStepRunsOpcode :
    (atBoundary 0x75).mode = .instruction ∧ (atBoundary 0x75).atXrefBoundary = true ∧
    decode .op8 [(atBoundary 0x75).regI, (atBoundary 0x75).memRead (atBoundary 0x75).pc,
      (atBoundary 0x75).memRead ((atBoundary 0x75).pc + 1)] = .ok (.call 0x4034, []) := ⟨rfl, by decide, by rfl⟩
theorem witness_PlacedWordRunsNext :
    decode .cw [(0x007C#24).extractLsb' 0 8, (0x007C#24).extractLsb' 8 8] = .ok (.fetch, []) ∧
    decode .op8 [(0xFFFF70#24).extractLsb' 0 8, (0xFFFF70#24).extractLsb' 8 8, (0xFFFF70#24).extractLsb' 16 8] =
      .ok (.jmp 0xFFFF, []) := ⟨by rfl, by rfl⟩
theorem witness_RunIteratesMicroCycle : (addressed 0x0C 1 false false false false).mode = .tick ∧
    (addressed 0x0C 1 false false false false).cycle ≠ 0 := by decide
theorem witness_RunCountsTicks : State.reset.mode = .tick := rfl
theorem witness_ArithmeticFunctions :
    (0x88#8) = busA .mem .reg (abus .ma sourceState) sourceState ∧ (0x33#8) = busBv .reg sourceState ∧
    (Instr.arith15 .mem .reg .ma true, 0x88#8, 0xFF#8) ∈
      [(Instr.arith14 .mem .reg .ma true, 0xCC#8, 0x88#8), (Instr.arith15 .mem .reg .ma true, 0x88#8, 0xFF#8)] := by decide
theorem witness_LogicFunctions :
    (0x66#8) = busA .t .d (abus .pc sourceState) sourceState ∧ (0x55#8) = busBv .d sourceState ∧
    (Instr.logic10 .t .d .pc false, 0x55#8) ∈ [(Instr.logic10 .t .d .pc false, 0x55#8)] := by decide
theorem witness_OutputIsWriteOnly : ∃ t, step (boundary 0x04 zero) = .next t := ⟨_, rfl⟩
theorem witness_StepKeepsParameters : ∃ t, step State.reset = .next t := ⟨_, rfl⟩
/-- A state with two entries of the input schedule for its tick, and one for another. -/
def scheduled : State := { State.reset with cfg := { defaultConfig with inputs := [⟨7, 1, 1, 1⟩, ⟨0, 6, 2, 1⟩, ⟨0, 9, 1, 0⟩] } }

theorem witness_AccessMatrix_entry :
    scheduled.cfg.inputs = [⟨7, 1, 1, 1⟩] ++ (⟨0, 6, 2, 1⟩ : InputEvent) :: [⟨0, 9, 1, 0⟩] ∧
    (∀ f ∈ ([⟨7, 1, 1, 1⟩] : List InputEvent), f.tick ≠ scheduled.tick) ∧
    (⟨0, 6, 2, 1⟩ : InputEvent).tick = scheduled.tick := ⟨rfl, by decide, rfl⟩
theorem witness_AccessMatrix_no_entry :
    ∀ f ∈ ({ scheduled with tick := 1 } : State).cfg.inputs, f.tick ≠ ({ scheduled with tick := 1 } : State).tick := by decide
theorem witness_AccessMatrix : ∃ t, State.reset.mode = .tick ∧ step State.reset = .next t ∧
    BusAW.adv = (ControlWord.unpack State.reset.controlWord).busAW := ⟨_, rfl, rfl, by decide +kernel⟩
theorem witness_InactiveBankIsIsolated : ∃ t, (addressed 0x82 0 true true true true).mode = .tick ∧
    step (addressed 0x82 0 true true true true) = .next t := ⟨_, rfl, rfl⟩
theorem witness_BootstrapRegionNeverChanges : ∃ t, step State.reset = .next t ∧
    (0x1FFF#16).toNat < State.reset.cfg.bootSize ∧ (0x0000#16).toNat < State.reset.cfg.bootSize :=
  ⟨_, rfl, by decide, by decide⟩
theorem witness_StepKeepsMemoryCanonical : ∃ t, (atBoundary 0x98).memoryWf ∧ step (atBoundary 0x98) = .next t :=
  ⟨_, by decide, rfl⟩
theorem witness_StepKeepsStackPinned : ∃ t, (atBoundary 0x98).stackPinned ∧ step (atBoundary 0x98) = .next t := by
  refine ⟨_, ?_, rfl⟩
  unfold State.stackPinned
  decide
theorem witness_StepKeepsClockInPhase : ∃ t, State.clockInPhase { zero with tick := 1999, regIN := 0x10 } ∧
    step { zero with tick := 1999, regIN := 0x10 } = .next t := by
  refine ⟨_, ?_, rfl⟩
  unfold State.clockInPhase
  decide
theorem witness_StepKeepsTraceOrdered : ∃ t,
    State.traceOrdered { boundary 0x04 zero with tick := 7, trace := [(3, 0x01), (7, 0x02)] } ∧
    step { boundary 0x04 zero with tick := 7, trace := [(3, 0x01), (7, 0x02)] } = .next t := by
  refine ⟨_, ?_, rfl⟩
  unfold State.traceOrdered
  decide
theorem witness_ResetIsSound : 1 ≤ defaultConfig.clkTogglePeriod := by decide
theorem witness_FirstMicroCycleFetches :
    defaultConfig.fill = .xref1 ∧ defaultConfig.rom0 = [] ∧ defaultConfig.rom1 = [] := ⟨rfl, rfl, rfl⟩
theorem witness_NoOperationInstructions : Instr.unassignedAC 0xAC ∈
    [Instr.nop, .unassigned02 0xAC, .unassigned77, .unassignedAC 0xAC, .unassignedC0 0xAC] := by decide
theorem witness_RegisterArithmetic : (0x05#8) = State.slot { zero with regA := 0x05 } .A ∧
    (0x00#8) = State.slot { zero with regA := 0x05 } .Y := ⟨rfl, rfl⟩
theorem witness_ImmediateArithmetic : (0xFF#8) = State.slot { zero with regY := 0xFF } .Y := rfl
theorem witness_Jumps :
    (Instr.jc 0x4034, true) ∈ [(Instr.jmp 0x4034, true), (.jc 0x4034, true), (.jnc 0x4034, !true)] ∧
    (Instr.jnz 0x4034, !false) ∈ [(Instr.jz 0x4034, false), (.jnz 0x4034, !false)] := by decide
/-- From the reset value of `SP` the first push goes to 0xFFFF and the second to 0xFFFE. -/
theorem witness_CallPushesReturnAddress :
    (0xFFFF#16).toNat = withBase zero.cfg.spBaseHi ((zero.sp.toNat + 65535) % 65536) ∧
    (0xFFFE#16).toNat = withBase zero.cfg.spBaseHi (((0xFFFF#16).toNat + 65535) % 65536) := by decide
theorem witness_ReturnPopsAddress : (0xFF01#16).toNat = withBase zero.cfg.spBaseHi ((zero.sp.toNat + 1) % 65536) := by
  decide

/-- `CALL 0x4034` from the reset value of `SP`. -/
def called : State := (got (exec (.call 0x4034) (atBoundary 0x75)) id).getD zero

theorem witness_ReturnUndoesCall :
    (atBoundary 0x75).stackPinned ∧
    ((atBoundary 0x75).cfg.spBaseHi = 0xFF ∨ 2 ≤ (atBoundary 0x75).sp.toNat % 256) ∧
    exec (.call 0x4034) (atBoundary 0x75) = .next called ∧ (atBoundary 0x75).cfg.bootSize ≤ called.sp.toNat ∧
    (atBoundary 0x75).cfg.bootSize ≤ (called.spFix (called.sp + 1)).toNat ∧
    ∃ v, exec .ret called = .next v := by
  unfold State.stackPinned
  exact ⟨by decide, by decide, rfl, by decide +kernel, by decide +kernel, _, rfl⟩

/-- A pinned `SP` inside a page range of more than one page, two pushes above the low end of a page. -/
def twoPushesLeft : State :=
  { atBoundary 0x75 with sp := 0xF102, cfg := { defaultConfig with spBaseHi := 0xF0 } }

theorem witness_ReturnUndoesCall_no_borrow :
    twoPushesLeft.stackPinned ∧ twoPushesLeft.cfg.spBaseHi ≠ 0xFF ∧ 2 ≤ twoPushesLeft.sp.toNat % 256 ∧
    ∃ t, exec (.call 0x4034) twoPushesLeft = .next t ∧ twoPushesLeft.cfg.bootSize ≤ t.sp.toNat ∧
      twoPushesLeft.cfg.bootSize ≤ (t.spFix (t.sp + 1)).toNat ∧ ∃ v, exec .ret t = .next v := by
  unfold State.stackPinned
  exact ⟨by decide, by decide, by decide, _, rfl, by decide +kernel, by decide +kernel, _, rfl⟩

/-- Every opcode of a list is the `I` of an XREF-1 boundary. -/
def boundariesAt (ops : List Byte) : Bool :=
  ops.all fun op => (atBoundary op).atXrefBoundary && decide ((atBoundary op).regI = op)

theorem witness_XrefBasicMicroprograms : boundariesAt [0x00, 0x0F] = true := by decide
theorem witness_XrefAluMicroprograms : boundariesAt [0x10, 0x6F, 0x78, 0x8F] = true := by decide
theorem witness_XrefFlowMicroprograms : boundariesAt [0x70, 0x77] = true := by decide
theorem witness_XrefMemoryMicroprograms : boundariesAt [0x90, 0xFF] = true := by decide
theorem witness_GeneratorNeverOverwrites :
    [(0x0E00, 0x0001#16), (0x0E01, 0x0001#16)].Pairwise (fun e f => e.1 < f.1) ∧
    ¬(((gated .enable).args.first = .ab ∨ (gated .enable).args.first = .xy) ∧
      ((gated .enable).args.second = .ab ∨ (gated .enable).args.second = .xy ∨ (gated .enable).args.second = .abxy)) ∧
    (gated .enable).opcode.toNat + (gated .enable).width ≤ 256 ∧
    (oneStep 0xF0 ⟨.abxy, .abxy, .none⟩).opcode.toNat + (oneStep 0xF0 ⟨.abxy, .abxy, .none⟩).width = 256 := by decide
theorem witness_FinalizedStoreHasNoHole :
    ([(0x0E00, 0x0001#16), (0x0E01, 0x007C#16)] : List (Nat × CtrlBits)).Pairwise (fun e f => e.1 < f.1) ∧
    ([(0x0E00, 0x01#8)], ([] : List Host.Cell)) =
      Generator.finalize { assigned := [0x38], written := [(0x0E00, 0x0001), (0x0E01, 0x007C)] } := by decide

end Sys2Proof.Tests
end

section
namespace Sys2Proof.Machine

/-! ### What a step can do

Each instruction is either one micro-cycle of a control word or the net effect of an XREF-1 microprogram; the second is a
chain of writes from a closed list, then the closing fetch. Each step of either mode is made of instructions that start
after the collaborator acted. -/

/-- The writes an XREF-1 instruction makes before its closing fetch, from the state `s` it starts in. The event of `OUT`
comes first or not at all, so no instruction raises two. -/
inductive State.Writes (s : State) : State → Prop where
  | none : Writes s s
  | out (v : Byte) : Writes s (sinkOut v s)
  | slot {u : State} (k : Slot) (v : Byte) : Writes s u → Writes s (u.setSlot k v)
  | data {u : State} (v : Byte) : Writes s u → Writes s { u with regD := v }
  | alu {u : State} (bank : Bool) (r : AluOut 8) : Writes s u → Writes s (u.latchAlu bank r)
  | store {u : State} (a : Addr) (v : Byte) : Writes s u → Writes s (u.memWrite a v)
  | pc {u : State} (v : Addr) : Writes s u → Writes s { u with pc := v }
  | sp {u : State} (v : Addr) : Writes s u → Writes s { u with sp := u.spFix v }
  | bp {u : State} (v : Addr) : Writes s u → Writes s { u with bp := v }
  | ma {u : State} (v : Addr) : Writes s u → Writes s { u with ma := v }

/-- The outcome of one micro-cycle: some sink fed by some values on the buses, then the end of the micro-cycle. -/
def State.controlOutcome (s : State) (r : Result) : Prop :=
  ∃ (w : BusAW) (alu : AluFields) (bus : Buses), r = .next (runBuses w alu bus s)

/-- The outcome of an XREF-1 instruction: its writes, then the closing fetch and the time it takes, one micro-cycle at
least. -/
def State.opcodeOutcome (s : State) (r : Result) : Prop :=
  ∃ (u : State) (n : Nat), s.Writes u ∧ r = .next (u.finish (n + 1))

namespace State.Writes

variable {s u : State}

theorem skip (n : Addr) (h : s.Writes u) : s.Writes (u.skip n) := h.pc (u.pc + n)

theorem spInc (h : s.Writes u) : s.Writes (sinkSpInc u) := h.sp (u.sp + 1)

theorem push (v : Byte) (h : s.Writes u) : s.Writes (pushByte v u) := (h.sp (u.sp - 1)).store _ v

theorem takeImm (imm : Byte) (h : s.Writes u) : s.Writes (takeImm imm u) := (h.data imm).skip 1

theorem aluToSlot (bank : Bool) (alu : AluFields) (r : Slot) (b : Byte) (h : s.Writes u) :
    s.Writes (aluToSlot bank alu r b u) := (h.alu bank _).slot r _

theorem finish (n : Nat) (h : s.Writes u) : s.opcodeOutcome (.next (u.finish (n + 1))) := ⟨u, n, h, rfl⟩

/-- None of the writes touches the parameters, the host's mode, `tick` or `IN`. -/
theorem keeps (h : s.Writes u) : u.cfg = s.cfg ∧ u.mode = s.mode ∧ u.tick = s.tick ∧ u.regIN = s.regIN := by
  induction h with
  | none | out => exact ⟨rfl, rfl, rfl, rfl⟩
  | data _ _ ih | pc _ _ ih | sp _ _ ih | bp _ _ ih | ma _ _ ih => exact ih
  | slot | alu | store => simpa

end State.Writes

theorem jumpTo_outcome (addr : Addr) (s : State) : s.opcodeOutcome (.next (jumpTo addr s)) :=
  ((State.Writes.none.data (loByte addr)).pc addr).finish 4

theorem fallThrough_outcome (s : State) : s.opcodeOutcome (.next (fallThrough s)) := (State.Writes.none.skip 2).finish 2

/-- A conditional jump has one of two outcomes (R237 to R240). -/
theorem State.opcodeOutcome.ite {s u v : State} (hu : s.opcodeOutcome (.next u)) (taken : Bool)
    (hv : s.opcodeOutcome (.next v)) : s.opcodeOutcome (.next (if taken then u else v)) := by
  cases taken
  · exact hv
  · exact hu

/-- What every instruction does, said once. -/
theorem exec_cases (i : Instr) (s : State) : s.controlOutcome (exec i s) ∨ s.opcodeOutcome (exec i s) := by
  have start : s.Writes s := .none
  cases i with
  | awReg ar b c alu => exact .inl ⟨.reg, alu, drive ar b c s, rfl⟩
  | awD ar b c alu => exact .inl ⟨.d, alu, drive ar b c s, rfl⟩
  | awAlu ar b c alu => exact .inl ⟨.alu, alu, drive ar b c s, rfl⟩
  | awMem ar b c alu => exact .inl ⟨.mem, alu, drive ar b c s, rfl⟩
  | awOut ar b c alu => exact .inl ⟨.out, alu, drive ar b c s, rfl⟩
  | awPc ar b c alu => exact .inl ⟨.pc, alu, drive ar b c s, rfl⟩
  | awSp ar b c alu => exact .inl ⟨.sp, alu, drive ar b c s, rfl⟩
  | awBp ar b c alu => exact .inl ⟨.bp, alu, drive ar b c s, rfl⟩
  | awMa ar b c alu => exact .inl ⟨.ma, alu, drive ar b c s, rfl⟩
  | awPcInc ar b c alu => exact .inl ⟨.pcInc, alu, drive ar b c s, rfl⟩
  | awSpInc ar b c alu => exact .inl ⟨.spInc, alu, drive ar b c s, rfl⟩
  | awSpDec ar b c alu => exact .inl ⟨.spDec, alu, drive ar b c s, rfl⟩
  | awBpInc ar b c alu => exact .inl ⟨.bpInc, alu, drive ar b c s, rfl⟩
  | awBpDec ar b c alu => exact .inl ⟨.bpDec, alu, drive ar b c s, rfl⟩
  | awRst ar b c alu => exact .inl ⟨.rst, alu, drive ar b c s, rfl⟩
  | awAdv ar b c alu => exact .inl ⟨.adv, alu, drive ar b c s, rfl⟩
  | arReg w b c alu | arD w b c alu | arIn w b c alu | arT w b c alu | arMem w b c alu | arPc w b c alu
  | arSp w b c alu | arBp w b c alu => exact .inl ⟨w, alu, _, rfl⟩
  | bbReg ar w c alu | bbD ar w c alu => exact .inl ⟨w, alu, _, rfl⟩
  | bcPc ar w b alu | bcMa ar w b alu | bcSp ar w b alu | bcBp ar w b alu => exact .inl ⟨w, alu, _, rfl⟩
  | arith0 ar b c cin | arith1 ar b c cin | arith2 ar b c cin | arith3 ar b c cin
  | arith4 ar b c cin | arith5 ar b c cin | arith6 ar b c cin | arith7 ar b c cin
  | arith8 ar b c cin | arith9 ar b c cin | arith10 ar b c cin | arith11 ar b c cin
  | arith12 ar b c cin | arith13 ar b c cin | arith14 ar b c cin | arith15 ar b c cin
  | logic0 ar b c cin | logic1 ar b c cin | logic2 ar b c cin | logic3 ar b c cin
  | logic4 ar b c cin | logic5 ar b c cin | logic6 ar b c cin | logic7 ar b c cin
  | logic8 ar b c cin | logic9 ar b c cin | logic10 ar b c cin | logic11 ar b c cin
  | logic12 ar b c cin | logic13 ar b c cin | logic14 ar b c cin | logic15 ar b c cin =>
    exact .inl ⟨.alu, ⟨_, _, cin⟩, drive ar b c s, rfl⟩
  | fetch => exact .inl ⟨.adv, ControlWord.noop.alu, drive .mem .reg .pc s, rfl⟩
  | hlt => exact .inl ⟨.rst, ControlWord.noop.alu, drive .mem .reg .pc s, rfl⟩
  | nop | unassigned02 | unassigned77 | unassignedAC | unassignedC0 => exact .inr (start.finish 0)
  | outR r => exact .inr ((State.Writes.out (s.slot r)).finish 1)
  | inR r | ldbp r | movbpl r | movbph r | movspl r | movsph r => exact .inr ((start.slot r _).finish 1)
  | movi r imm => exact .inr (((start.slot r imm).skip 1).finish 2)
  | add r1 r2 | sub r1 r2 | and r1 r2 | or r1 r2 | xor r1 r2 | mov r1 r2 =>
    exact .inr ((start.aluToSlot _ _ r1 (s.slot r2)).finish 2)
  | inc r | dec r => exact .inr ((start.aluToSlot _ _ r _).finish 2)
  | addi r imm | subi r imm | adci r imm => exact .inr (((start.takeImm imm).aluToSlot _ _ r imm).finish 4)
  | cmpi r imm => exact .inr (((start.takeImm imm).alu false _).finish 3)
  | jmp addr => exact .inr (jumpTo_outcome addr s)
  | jc addr | jz addr => exact .inr ((jumpTo_outcome addr s).ite _ (fallThrough_outcome s))
  | jnc addr | jnz addr => exact .inr ((fallThrough_outcome s).ite _ (jumpTo_outcome addr s))
  | call addr => exact .inr ((((((start.data _).skip 1).push _).push _).pc _).finish 8)
  | ret => exact .inr (((((start.data _).spInc).spInc).pc _).finish 6)
  | ld r addr => exact .inr ((((start.ma addr).slot r _).skip 2).finish 5)
  | st r addr => exact .inr ((((start.ma addr).store addr _).skip 2).finish 5)
  | push r => exact .inr ((start.push _).finish 2)
  | pop r => exact .inr (((start.slot r _).spInc).finish 2)
  | movbp addr => exact .inr (((start.bp addr).skip 2).finish 4)
  | movsp addr => exact .inr (((start.sp addr).skip 2).finish 4)
  | incbp | decbp => exact .inr ((start.bp _).finish 1)
  | stbp r => exact .inr ((start.store _ _).finish 1)

/-- A relation that holds between the ends of every micro-cycle holds between the ends of a run to the boundary, when it
is transitive. -/
theorem runToBoundary_rel {R : State → State → Prop} (trans : ∀ s u t, R s u → R u t → R s t)
    (tick : ∀ s t, tickStep s = .next t → R s t) (n : Nat) (s t : State) (h : runToBoundary (n + 1) s = .next t) :
    R s t := by
  induction n generalizing s with
  | zero =>
    rw [runToBoundary] at h
    split at h
    next u hu =>
      obtain rfl : u = t := by simpa [runToBoundary] using h
      exact tick s u hu
    all_goals cases h
  | succ n ih =>
    rw [runToBoundary] at h
    split at h
    next u hu =>
      split at h
      · cases h; exact tick s t hu
      · exact trans s u t (tick s u hu) (ih u h)
    all_goals cases h

/-- Both modes come down to instructions that run after the collaborator acted: a transitive relation that holds between
the ends of each of them holds between the ends of every step. -/
theorem step_rel {R : State → State → Prop} (trans : ∀ s u t, R s u → R u t → R s t)
    (instr : ∀ i s t, exec i s.pollInput = .next t → R s t) (s t : State) (h : step s = .next t) : R s t := by
  have tick : ∀ s t, tickStep s = .next t → R s t := fun s t => instr (fetchControl s.pollInput) s t
  rw [step] at h
  split at h
  case h_1 => exact tick s t h
  case h_2 =>
    rw [instructionStep] at h
    split at h
    · exact instr (fetchOpcode s) s t h
    · exact runToBoundary_rel trans tick 15 s t h

/-! ### Parameters and time -/

/-- `t` is a later state of the machine that `s` is: the parameters and the host's mode stay, `tick` has risen. -/
def State.advancesTo (s t : State) : Prop := s.keepsHost t ∧ s.tick < t.tick

theorem State.advancesTo.trans {s u t : State} (hsu : s.advancesTo u) (hut : u.advancesTo t) : s.advancesTo t := by
  obtain ⟨⟨hcfg, hmode⟩, htick⟩ := hsu
  obtain ⟨⟨hcfg', hmode'⟩, htick'⟩ := hut
  exact ⟨⟨hcfg'.trans hcfg, hmode'.trans hmode⟩, htick.trans htick'⟩

/-- A micro-cycle adds 1 to `tick` (R99); no sink writes it or the parameters (R147). -/
theorem runBuses_advances (w : BusAW) (alu : AluFields) (bus : Buses) (s : State) :
    s.advancesTo (runBuses w alu bus s) := by
  obtain ⟨hcfg, hmode, htick, -⟩ := runSink_keeps w alu bus s
  refine ⟨⟨hcfg, hmode⟩, ?_⟩
  rw [runBuses, State.endCycle_tick, htick]
  exact Nat.lt_succ_self s.tick

/-- An XREF-1 instruction of `n + 1` micro-cycles adds as many to `tick` (R221). -/
theorem State.Writes.finish_advances {s u : State} (h : s.Writes u) (n : Nat) : s.advancesTo (u.finish (n + 1)) := by
  obtain ⟨hcfg, hmode, htick, -⟩ := h.keeps
  obtain ⟨-, -, -, hticks, -⟩ := State.finish_spec u (n + 1) (Nat.succ_pos n)
  exact ⟨⟨by simp [hcfg], by simp [hmode]⟩, by omega⟩

theorem exec_advances {i : Instr} {s t : State} (h : exec i s = .next t) : s.advancesTo t := by
  obtain ⟨w, alu, bus, hr⟩ | ⟨u, n, hu, hr⟩ := exec_cases i s
  · obtain rfl : t = runBuses w alu bus s := by simpa using h.symm.trans hr
    exact runBuses_advances w alu bus s
  · obtain rfl : t = u.finish (n + 1) := by simpa using h.symm.trans hr
    exact hu.finish_advances n

/-- What the collaborator does to `IN` is not seen by the parameters, the mode or `tick`. -/
theorem State.pollInput_advancesTo (s t : State) : s.pollInput.advancesTo t ↔ s.advancesTo t := by
  simp [State.advancesTo, State.keepsHost]

/-- Settles O37: every instruction of either kind advances the machine, and advancing is transitive. -/
theorem stepKeepsParameters : Obligations.StepKeepsParameters := by
  unfold Obligations.StepKeepsParameters
  intro s t h
  have hst : s.advancesTo t :=
    step_rel (R := State.advancesTo) (fun _ _ _ => State.advancesTo.trans)
      (fun _ s t hi => (s.pollInput_advancesTo t).mp (exec_advances hi)) s t h
  obtain ⟨⟨hcfg, hmode⟩, htick⟩ := hst
  exact ⟨hcfg, hmode, htick⟩

end Sys2Proof.Machine
end

section
namespace Sys2Proof.Machine

/-! ### The instruction a step runs -/

/-- The collaborator's bits of `IN` have no part in the control word or in its address (R93, R307). -/
theorem State.controlWord_pollInput (s : State) : s.pollInput.controlWord = s.controlWord := by
  simp [State.controlWord, State.romAddr, State.carryOf, State.zeroOf, State.bank]

/-- In tick mode a step runs the control word at the address of R93 (R94, R101). -/
theorem step_of_tick {s : State} (hmode : s.mode = .tick) :
    step s = exec (decodeControl s.controlWord) s.pollInput := by
  simp [step, hmode, tickStep, fetchControl, State.controlWord_pollInput]

/-- In instruction mode, at a boundary of XREF-1, a step runs the opcode in `I` (R104, R221). -/
theorem step_of_xrefBoundary {s : State} (hmode : s.mode = .instruction) (hb : s.atXrefBoundary = true) :
    step s = exec (fetchOpcode s) s.pollInput := by
  simp [step, hmode, instructionStep, hb]

/-! ### What placing a word does -/

/-- Nothing that `placeControl` writes is part of the address of R93, so the placed word is the one read there. -/
theorem controlWord_placeControl (s : State) (w : CtrlBits) : (placeControl s w).controlWord = w :=
  (romWord_write s.cfg s.romAddr s.romAddr w).trans (if_pos rfl)

theorem pokeByte_pc (s : State) (a : Addr) (v : Byte) : (pokeByte s a v).pc = s.pc := by
  unfold pokeByte
  split <;> rfl

/-- The loader's byte is read back at its address, in the image as in `RAM`, and every other address reads as it did
(R53, R65). -/
theorem memRead_pokeByte (s : State) (a : Addr) (v : Byte) (x : Addr) :
    (pokeByte s a v).memRead x = if x = a then v else s.memRead x := by
  by_cases hx : x = a
  · subst hx
    by_cases hboot : x.toNat < s.cfg.bootSize <;> simp [pokeByte, State.memRead, hboot, Memory.read_write]
  · have hne : x.toNat ≠ a.toNat := fun h => hx (BitVec.eq_of_toNat_eq h)
    by_cases hboot : a.toNat < s.cfg.bootSize <;> simp [pokeByte, State.memRead, hboot, Memory.read_write, hx, hne]

theorem placeOpcode_pc (s : State) (op lo hi : Byte) : (placeOpcode s op lo hi).pc = s.pc :=
  (pokeByte_pc _ _ _).trans (pokeByte_pc _ _ _)

/-- `placeOpcode` writes the two operand bytes and no other byte of memory. -/
theorem memRead_placeOpcode (s : State) (op lo hi : Byte) (x : Addr) :
    (placeOpcode s op lo hi).memRead x = if x = s.pc + 1 then hi else if x = s.pc then lo else s.memRead x :=
  calc (placeOpcode s op lo hi).memRead x
    _ = (pokeByte (pokeByte s s.pc lo) (s.pc + 1) hi).memRead x := rfl
    _ = _ := by rw [memRead_pokeByte, memRead_pokeByte]

theorem atXrefBoundary_placeOpcode (s : State) (op lo hi : Byte) : (placeOpcode s op lo hi).atXrefBoundary = true := rfl

/-- The placed opcode is fetched with the placed operand bytes: the second of them does not fall on the first, not even
where `PC` wraps. -/
theorem fetchOpcode_placeOpcode (s : State) (op lo hi : Byte) :
    fetchOpcode (placeOpcode s op lo hi) = decodeOpcode op lo hi := by
  have hop : (placeOpcode s op lo hi).regI = op := rfl
  simp [fetchOpcode, hop, placeOpcode_pc, memRead_placeOpcode]

/-- Sixteen bits of a word are placed as a control word. -/
theorem withFetchWord_control (s : State) (w : BitVec 24) :
    s.withFetchWord 16 w.toNat = placeControl s (w.extractLsb' 0 16) := by
  simp [State.withFetchWord, placeWord]

/-- Eight bits of a word are placed as an opcode, and the two bytes above them as its operand bytes. -/
theorem withFetchWord_opcode (s : State) (w : BitVec 24) :
    s.withFetchWord 8 w.toNat =
      placeOpcode s (w.extractLsb' 0 8) (w.extractLsb' 8 8) (w.extractLsb' 16 8) := by
  simp [State.withFetchWord, placeWord]

/-! ### What the decoder reads -/

/-- The `ROM0` and the `ROM1` byte of a word are its low 16 bits (R70). -/
theorem controlBits_extractLsb' (w : BitVec 24) :
    controlBits (w.extractLsb' 0 8) (w.extractLsb' 8 8) = w.extractLsb' 0 16 :=
  BitVec.extractLsb'_append_extractLsb'_eq_extractLsb' (by decide)

/-- The opcodes with an operand: those with an immediate, then those with an address (R83, R261). -/
theorem operandCount_ne_zero_iff (op : Byte) :
    operandCount op ≠ 0 ↔
      (0x0C ≤ op.toNat ∧ op.toNat ≤ 0x0F ∨ 0x30 ≤ op.toNat ∧ op.toNat ≤ 0x3F) ∨
      (0x70 ≤ op.toNat ∧ op.toNat ≤ 0x75 ∨ 0x90 ≤ op.toNat ∧ op.toNat ≤ 0x97 ∨
        0xA0 ≤ op.toNat ∧ op.toNat ≤ 0xA1) := by
  simp only [operandCount]
  split_ifs <;> simp <;> omega

/-- The opcodes with an address (R83, R261). -/
theorem operandCount_eq_two_iff (op : Byte) :
    operandCount op = 2 ↔
      0x70 ≤ op.toNat ∧ op.toNat ≤ 0x75 ∨ 0x90 ≤ op.toNat ∧ op.toNat ≤ 0x97 ∨
        0xA0 ≤ op.toNat ∧ op.toNat ≤ 0xA1 := by
  simp only [operandCount]
  split_ifs <;> simp <;> omega

/-- An instruction depends on the operand bytes its opcode has and on no others (R82, R83). -/
theorem decodeOpcode_congr {op lo hi lo' hi' : Byte} (hlo : operandCount op ≠ 0 → lo = lo')
    (hhi : operandCount op = 2 → hi = hi') : decodeOpcode op lo hi = decodeOpcode op lo' hi' := by
  rw [operandCount_ne_zero_iff] at hlo
  rw [operandCount_eq_two_iff] at hhi
  simp only [decodeOpcode]
  repeat' refine ite_congr rfl (fun _ => ?_) (fun _ => ?_)
  -- The rows without an operand agree as they stand, those with an immediate once `lo` does; then addresses are left.
  any_goals with_reducible rfl
  all_goals rw [hlo (by omega)]
  all_goals rw [hhi (by omega)]

/-- Whatever the decoder leaves over of an opcode and two bytes, what it reads is the row of all three. -/
theorem decode_op8_eq_decodeOpcode {op lo hi : Byte} {i : Instr} {rest : List Byte}
    (h : decode .op8 [op, lo, hi] = .ok (i, rest)) : i = decodeOpcode op lo hi := by
  simp only [decode] at h
  split at h
  case h_1 hcount => cases h; exact decodeOpcode_congr (by simp [hcount]) (by simp [hcount])
  case h_2 hcount hbytes => cases hbytes; cases h; exact decodeOpcode_congr (fun _ => rfl) (by simp [hcount])
  case h_3 hbytes _ _ => cases hbytes; cases h; rfl
  case h_4 => cases h

theorem decode_cw_eq_decodeControl {rom0 rom1 : Byte} {i : Instr} {rest : List Byte}
    (h : decode .cw [rom0, rom1] = .ok (i, rest)) : i = decodeControl (controlBits rom0 rom1) := by
  cases h; rfl

/-! ### A placed word is the one that runs -/

/-- Settles O12: placing makes a tick state that reads the word, or an XREF-1 boundary that fetches it. -/
theorem placedWordRunsNext : Obligations.PlacedWordRunsNext := by
  unfold Obligations.PlacedWordRunsNext
  refine ⟨fun s w i h => ?_, fun s w i rest h => ?_⟩
  · obtain rfl := decode_cw_eq_decodeControl h
    rw [withFetchWord_control, step_of_tick rfl, controlWord_placeControl, controlBits_extractLsb']
  · obtain rfl := decode_op8_eq_decodeOpcode h
    rw [withFetchWord_opcode, step_of_xrefBoundary rfl (atXrefBoundary_placeOpcode ..), fetchOpcode_placeOpcode]

end Sys2Proof.Machine
end

section
-- One theorem at a time, as in the tests: elaborating many at once takes a thread each.
set_option Elab.async false

namespace Sys2Proof

/-! ### Selector values and their numbers -/

@[simp] theorem BusAR.code_ofCode (v : BitVec 3) : (BusAR.ofCode v).code = v := by revert v; decide
@[simp] theorem BusAR.ofCode_code (x : BusAR) : BusAR.ofCode x.code = x := by cases x <;> rfl
@[simp] theorem BusAW.code_ofCode (v : BitVec 4) : (BusAW.ofCode v).code = v := by revert v; decide
@[simp] theorem BusAW.ofCode_code (x : BusAW) : BusAW.ofCode x.code = x := by cases x <;> rfl
@[simp] theorem BusB.code_ofCode (v : BitVec 1) : (BusB.ofCode v).code = v := by revert v; decide
@[simp] theorem BusB.ofCode_code (x : BusB) : BusB.ofCode x.code = x := by cases x <;> rfl
@[simp] theorem BusC.code_ofCode (v : BitVec 2) : (BusC.ofCode v).code = v := by revert v; decide
@[simp] theorem BusC.ofCode_code (x : BusC) : BusC.ofCode x.code = x := by cases x <;> rfl
@[simp] theorem AluMode.code_ofCode (v : BitVec 1) : (AluMode.ofCode v).code = v := by revert v; decide
@[simp] theorem AluMode.ofCode_code (x : AluMode) : AluMode.ofCode x.code = x := by cases x <;> rfl
@[simp] theorem Slot.code_ofCode (v : BitVec 2) : (Slot.ofCode v).code = v := by revert v; decide
@[simp] theorem Slot.ofCode_code (x : Slot) : Slot.ofCode x.code = x := by cases x <;> rfl

/-! ### The codec -/

/-- A piece joined to the piece below it is one piece (R70). -/
theorem toNat_append (m n : Nat) (x : BitVec m) (y : BitVec n) : (x ++ y).toNat = x.toNat * 2 ^ n + y.toNat := by
  rw [BitVec.toNat_append, ← Nat.shiftLeft_add_eq_or_of_lt y.isLt, Nat.shiftLeft_eq]

theorem ControlWord.toNat_pack (cw : ControlWord) :
    cw.pack.toNat = cw.alu.carryIn.toNat * 32768 + cw.alu.mode.code.toNat * 16384 + cw.alu.select.toNat * 1024 +
      cw.busC.code.toNat * 256 + cw.busB.code.toNat * 128 + cw.busAW.code.toNat * 8 + cw.busAR.code.toNat := by
  unfold ControlWord.pack
  rw [toNat_append, toNat_append, toNat_append, toNat_append, toNat_append, toNat_append, BitVec.toNat_ofBool]
  omega

/-- A field of a word from the quotient and remainder that it is. -/
theorem extractLsb'_eq_of_toNat {start len : Nat} {w : CtrlBits} {v : BitVec len}
    (h : w.toNat / 2 ^ start % 2 ^ len = v.toNat) : w.extractLsb' start len = v := by
  apply BitVec.eq_of_toNat_eq
  rw [BitVec.extractLsb'_toNat, Nat.shiftRight_eq_div_pow, h]

theorem bool_eq_of_toNat_eq {b c : Bool} (h : b.toNat = c.toNat) : b = c := by
  revert h
  cases b <;> cases c <;> decide

theorem toNat_getLsbD_15 (w : CtrlBits) : (w.getLsbD 15).toNat = w.toNat / 32768 := by
  rw [BitVec.getLsbD, Nat.toNat_testBit]
  omega

/-- The fields of a word are consecutive pieces of it, so joining them again gives the word (R70). -/
theorem ControlWord.pack_unpack (w : CtrlBits) : (ControlWord.unpack w).pack = w := by
  apply BitVec.eq_of_toNat_eq
  rw [ControlWord.toNat_pack]
  simp only [ControlWord.unpack, BusAR.code_ofCode, BusAW.code_ofCode, BusB.code_ofCode, BusC.code_ofCode,
    AluMode.code_ofCode, BitVec.extractLsb'_toNat, Nat.shiftRight_eq_div_pow, toNat_getLsbD_15]
  omega

/-- Each field is read where `pack` put it: above the fields below it, below those above it (R70). -/
theorem ControlWord.unpack_pack (cw : ControlWord) : ControlWord.unpack cw.pack = cw := by
  have hn := cw.toNat_pack
  obtain ⟨ar, aw, b, c, ⟨sel, mode, cin⟩⟩ := cw
  simp only at hn
  generalize ControlWord.pack _ = w at hn
  have har : w.extractLsb' 0 3 = ar.code := extractLsb'_eq_of_toNat (by omega)
  have haw : w.extractLsb' 3 4 = aw.code := extractLsb'_eq_of_toNat (by omega)
  have hb : w.extractLsb' 7 1 = b.code := extractLsb'_eq_of_toNat (by omega)
  have hc : w.extractLsb' 8 2 = c.code := extractLsb'_eq_of_toNat (by omega)
  have hsel : w.extractLsb' 10 4 = sel := extractLsb'_eq_of_toNat (by omega)
  have hmode : w.extractLsb' 14 1 = mode.code := extractLsb'_eq_of_toNat (by omega)
  have hcin : w.getLsbD 15 = cin := by
    apply bool_eq_of_toNat_eq
    rw [toNat_getLsbD_15]
    omega
  simp only [ControlWord.unpack, har, haw, hb, hc, hsel, hmode, hcin, BusAR.ofCode_code, BusAW.ofCode_code,
    BusB.ofCode_code, BusC.ofCode_code, AluMode.ofCode_code]

/-- Settles O1: both round trips of the codec. -/
theorem codecIsBijective : Obligations.CodecIsBijective :=
  ⟨ControlWord.pack_unpack, ControlWord.unpack_pack⟩

theorem toNat_joinBytes (hi lo : Byte) : (joinBytes hi lo).toNat = hi.toNat * 256 + lo.toNat := toNat_append 8 8 hi lo

theorem toNat_controlBits (rom0 rom1 : Byte) : (controlBits rom0 rom1).toNat = rom1.toNat * 256 + rom0.toNat :=
  toNat_append 8 8 rom1 rom0

/-- Settles O2: packing the fields gives the two bytes back, so the fields are the digits of their number. -/
theorem fieldsOfAControlWord : Obligations.FieldsOfAControlWord := by
  unfold Obligations.FieldsOfAControlWord
  intro rom0 rom1
  have hpack := (ControlWord.unpack (controlBits rom0 rom1)).toNat_pack
  rw [ControlWord.pack_unpack, toNat_controlBits] at hpack
  generalize ControlWord.unpack (controlBits rom0 rom1) = cw at hpack ⊢
  have hcin := cw.alu.carryIn.toNat_lt
  refine ⟨?_, ?_, ?_, ?_, ?_, ?_, ?_⟩ <;> omega

/-! ### The rows of a control word -/

theorem ControlWord.sinkReading_control (cw : ControlWord) : cw.sinkReading.control = some cw := by
  obtain ⟨ar, w, b, c, alu⟩ := cw
  cases w <;> rfl

theorem ControlWord.sourceReading_control (cw : ControlWord) : cw.sourceReading.control = some cw := by
  obtain ⟨ar, w, b, c, alu⟩ := cw
  cases ar <;> rfl

theorem ControlWord.secondaryReading_control (cw : ControlWord) : cw.secondaryReading.control = some cw := by
  obtain ⟨ar, w, b, c, alu⟩ := cw
  cases b <;> rfl

theorem ControlWord.addressReading_control (cw : ControlWord) : cw.addressReading.control = some cw := by
  obtain ⟨ar, w, b, c, alu⟩ := cw
  cases c <;> rfl

/-- A word with the sink `AW.ALU` has a row for its mode and each of the sixteen values of `aluSelect` (R154 to R185). -/
theorem ControlWord.functionReading_control (cw : ControlWord) (h : cw.isFunction = true) :
    cw.functionReading.control = some cw := by
  obtain ⟨ar, w, b, c, ⟨sel, mode, cin⟩⟩ := cw
  obtain rfl : w = .alu := by simpa [ControlWord.isFunction] using h
  have hsel : ∀ (m : AluMode) (v : BitVec 4),
      (ControlWord.functionReading ⟨ar, .alu, b, c, ⟨v, m, cin⟩⟩).control = some ⟨ar, .alu, b, c, ⟨v, m, cin⟩⟩ := by
    intro m ⟨⟨n, hn⟩⟩
    interval_cases n <;> cases m <;> rfl
  exact hsel mode sel

/-- Every row that a control word matches stands for that word. -/
theorem ControlWord.control_of_mem_readings {cw : ControlWord} {i : Instr} (h : i ∈ cw.readings) :
    i.control = some cw := by
  simp only [ControlWord.readings, List.mem_append, List.mem_cons, List.not_mem_nil, or_false,
    List.mem_ite_nil_right] at h
  obtain ((rfl | rfl | rfl | rfl) | ⟨hf, rfl⟩) | ⟨rfl, rfl⟩ := h
  · exact cw.sinkReading_control
  · exact cw.sourceReading_control
  · exact cw.secondaryReading_control
  · exact cw.addressReading_control
  · exact cw.functionReading_control hf
  · rfl

/-- An instruction of format `CW` is one of the rows of its word: the row of its sink, its source, its secondary source,
its address source or its ALU function, or the fetch. -/
theorem Instr.mem_readings {i : Instr} {cw : ControlWord} (h : i.control = some cw) : i ∈ cw.readings := by
  have hsink : i = cw.sinkReading → i ∈ cw.readings := by rintro rfl; simp [ControlWord.readings]
  have hsource : i = cw.sourceReading → i ∈ cw.readings := by rintro rfl; simp [ControlWord.readings]
  have hsecondary : i = cw.secondaryReading → i ∈ cw.readings := by rintro rfl; simp [ControlWord.readings]
  have haddress : i = cw.addressReading → i ∈ cw.readings := by rintro rfl; simp [ControlWord.readings]
  have hfunction : cw.isFunction = true → i = cw.functionReading → i ∈ cw.readings := by
    rintro hf rfl; simp [ControlWord.readings, hf]
  cases i <;> cases h
  case fetch => decide
  case awReg | awD | awAlu | awMem | awOut | awPc | awSp | awBp | awMa | awPcInc | awSpInc | awSpDec | awBpInc | awBpDec
    | awRst | awAdv => exact hsink rfl
  case arReg | arD | arIn | arT | arMem | arPc | arSp | arBp => exact hsource rfl
  case bbReg | bbD => exact hsecondary rfl
  case bcPc | bcMa | bcSp | bcBp => exact haddress rfl
  all_goals exact hfunction rfl rfl

/-- The decoder's name of a word is one of its rows (log entry 3). -/
theorem ControlWord.name_mem_readings (cw : ControlWord) : cw.name ∈ cw.readings := by
  unfold ControlWord.name
  split_ifs <;> simp [ControlWord.readings, *]

theorem ControlWord.name_control (cw : ControlWord) : cw.name.control = some cw :=
  ControlWord.control_of_mem_readings cw.name_mem_readings

/-! ### Control words through the decoder -/

theorem encode_of_control {i : Instr} {cw : ControlWord} (h : i.control = some cw) :
    encode i = [loByte cw.pack, hiByte cw.pack] := by
  simp [encode, h]

theorem controlBits_loByte_hiByte (w : CtrlBits) : controlBits (loByte w) (hiByte w) = w :=
  Machine.joinBytes_hiByte_loByte w

/-- Settles O3: the decoder reads the two bytes back as the word and names it by one of its rows. -/
theorem decodeEncodeControlWord : Obligations.DecodeEncodeControlWord := by
  unfold Obligations.DecodeEncodeControlWord
  intro i cw rest h
  have hname : i.canonical = cw.name := by simp [Instr.canonical, h]
  rw [hname, encode_of_control h]
  refine ⟨?_, cw.name_control, Instr.mem_readings h, cw.name_mem_readings⟩
  simp [decode, decodeControl, controlBits_loByte_hiByte, ControlWord.unpack_pack]

/-! ### Opcodes through the decoder -/

theorem operandCount_le (op : Byte) : operandCount op ≤ 2 := by
  simp only [operandCount]
  split_ifs <;> omega

/-- The decoder takes as many operand bytes as the opcode has (R82, R83). -/
theorem decode_op8 (op : Byte) (operands rest : List Byte) (h : operands.length = operandCount op) :
    decode .op8 (op :: (operands ++ rest)) = .ok (decodeOpcode op (operands.getD 0 0) (operands.getD 1 0), rest) := by
  match operands, h with
  | [], h => simp [decode, ← h]
  | [lo], h => simp [decode, ← h]
  | [lo, hi], h => simp [decode, ← h]
  | _ :: _ :: _ :: _, h => 
    have hle := operandCount_le op
    simp only [List.length_cons] at h
    omega

theorem opcode1_toNat (base : Byte) (r : Slot) (h : base.toNat % 4 = 0) :
    (opcode1 base r).toNat = base.toNat + r.code.toNat := by
  have hr := r.code.isLt
  have hq : base.toNat = 2 ^ 2 * (base.toNat / 4) := by omega
  rw [opcode1, BitVec.toNat_or, BitVec.toNat_setWidth, Nat.mod_eq_of_lt (by omega), hq,
    ← Nat.two_pow_add_eq_or_of_lt hr]

theorem opcode2_toNat (base : Byte) (r1 r2 : Slot) (h : base.toNat % 16 = 0) :
    (opcode2 base r1 r2).toNat = base.toNat + r2.code.toNat * 4 + r1.code.toNat := by
  have hr := (r2.code ++ r1.code).isLt
  have hn := toNat_append 2 2 r2.code r1.code
  have hq : base.toNat = 2 ^ 4 * (base.toNat / 16) := by omega
  rw [opcode2, BitVec.toNat_or, BitVec.toNat_setWidth, Nat.mod_eq_of_lt (by omega), hq,
    ← Nat.two_pow_add_eq_or_of_lt hr, hn]
  omega

theorem opcodeSlotA_code (op : Byte) : (opcodeSlotA op).code.toNat = op.toNat % 4 := by
  simp [opcodeSlotA]

theorem opcodeSlotB_code (op : Byte) : (opcodeSlotB op).code.toNat = op.toNat / 4 % 4 := by
  simp [opcodeSlotB, Nat.shiftRight_eq_div_pow]

/-- The opcodes of a block with one register are its base with the register in bits 1:0 (R81). -/
theorem opcode1_slotA {base op : Byte} (h : base.toNat % 4 = 0) (hlo : base.toNat ≤ op.toNat)
    (hhi : op.toNat ≤ base.toNat + 3) : opcode1 base (opcodeSlotA op) = op := by
  apply BitVec.eq_of_toNat_eq
  rw [opcode1_toNat base _ h, opcodeSlotA_code]
  omega

/-- The opcodes of a block with two registers are its base with the registers in bits 1:0 and 3:2 (R81). -/
theorem opcode2_slots {base op : Byte} (h : base.toNat % 16 = 0) (hlo : base.toNat ≤ op.toNat)
    (hhi : op.toNat ≤ base.toNat + 15) : opcode2 base (opcodeSlotA op) (opcodeSlotB op) = op := by
  apply BitVec.eq_of_toNat_eq
  rw [opcode2_toNat base _ _ h, opcodeSlotA_code, opcodeSlotB_code]
  omega

/-- The opcodes without an operand (R83, R261). -/
theorem operandCount_zero {op : Byte} (h : ¬((0x0C ≤ op.toNat ∧ op.toNat ≤ 0x0F ∨ 0x30 ≤ op.toNat ∧ op.toNat ≤ 0x3F) ∨
    (0x70 ≤ op.toNat ∧ op.toNat ≤ 0x75 ∨ 0x90 ≤ op.toNat ∧ op.toNat ≤ 0x97 ∨ 0xA0 ≤ op.toNat ∧ op.toNat ≤ 0xA1))) :
    operandCount op = 0 :=
  not_not.mp (mt (Machine.operandCount_ne_zero_iff op).mp h)

/-- The opcodes with an immediate (R83, R261). -/
theorem operandCount_one {op : Byte} (h : 0x0C ≤ op.toNat ∧ op.toNat ≤ 0x0F ∨ 0x30 ≤ op.toNat ∧ op.toNat ≤ 0x3F) :
    operandCount op = 1 := by
  simp only [operandCount]
  split_ifs <;> omega

/-- The opcodes with an address (R83, R261). -/
theorem operandCount_two {op : Byte} (h : 0x70 ≤ op.toNat ∧ op.toNat ≤ 0x75 ∨ 0x90 ≤ op.toNat ∧ op.toNat ≤ 0x97 ∨
    0xA0 ≤ op.toNat ∧ op.toNat ≤ 0xA1) : operandCount op = 2 :=
  (Machine.operandCount_eq_two_iff op).mpr h

/-- An instruction in format `OP8` that has the given opcode and the operand bytes that the opcode takes. -/
structure Instr.Reads (op lo hi : Byte) (i : Instr) : Prop where
  control : i.control = none
  opcode : i.opcode = some op
  operands : i.operands = [lo, hi].take (operandCount op)
  wellFormed : i.wellFormed = true

namespace Instr.Reads

variable {op lo hi : Byte} {i : Instr}

/-- A row of one opcode. -/
theorem const (k : Byte) (hop : op.toNat = k.toNat) (h : Reads k lo hi i) : Reads op lo hi i := by
  obtain rfl := BitVec.eq_of_toNat_eq hop
  exact h

/-- A row of four opcodes with the register in bits 1:0. -/
theorem one (base : Byte) (n : Nat) (hc : i.control = none) (hop : i.opcode = some (opcode1 base (opcodeSlotA op)))
    (hr : base.toNat % 4 = 0 ∧ base.toNat ≤ op.toNat ∧ op.toNat ≤ base.toNat + 3) (hn : operandCount op = n)
    (hops : i.operands = [lo, hi].take n) (hwf : i.wellFormed = true) : Reads op lo hi i := by
  obtain ⟨hbase, hlo, hhi⟩ := hr
  exact ⟨hc, by rw [hop, opcode1_slotA hbase hlo hhi], by rw [hops, hn], hwf⟩

/-- A row of sixteen opcodes with two registers and no operand byte. -/
theorem two (base : Byte) (hc : i.control = none)
    (hop : i.opcode = some (opcode2 base (opcodeSlotA op) (opcodeSlotB op)))
    (hr : base.toNat % 16 = 0 ∧ base.toNat ≤ op.toNat ∧ op.toNat ≤ base.toNat + 15) (hn : operandCount op = 0)
    (hops : i.operands = []) (hwf : i.wellFormed = true) : Reads op lo hi i := by
  obtain ⟨hbase, hlo, hhi⟩ := hr
  exact ⟨hc, by rw [hop, opcode2_slots hbase hlo hhi], by rw [hops, hn]; rfl, hwf⟩

/-- A row that carries its opcode. -/
theorem unassigned (hc : i.control = none) (hop : i.opcode = some op) (hn : operandCount op = 0)
    (hops : i.operands = []) (hwf : i.wellFormed = true) : Reads op lo hi i :=
  ⟨hc, hop, by rw [hops, hn]; rfl, hwf⟩

/-- A row of one opcode with an address. -/
theorem addr (k : Byte) (hop : op.toNat = k.toNat) (hc : i.control = none) (hk : i.opcode = some k)
    (hn : operandCount k = 2) (hops : i.operands = [loByte (joinBytes hi lo), hiByte (joinBytes hi lo)])
    (hwf : i.wellFormed = true) : Reads op lo hi i :=
  const k hop ⟨hc, hk, by simp [hops, hn], hwf⟩

end Instr.Reads

/-- What the decoder reads from an opcode, row by row of the map R261. -/
theorem decodeOpcode_reads (op lo hi : Byte) : (decodeOpcode op lo hi).Reads op lo hi := by
  have hop := op.isLt
  have hjoin : [loByte (joinBytes hi lo), hiByte (joinBytes hi lo)] = [lo, hi].take 2 := by simp
  simp only [decodeOpcode]
  repeat' refine iteInduction (motive := Instr.Reads op lo hi) (fun _ => ?_) (fun _ => ?_)
  · exact .const 0x00 ‹_› ⟨rfl, rfl, rfl, rfl⟩ -- NOP
  · exact .const 0x01 ‹_› ⟨rfl, rfl, rfl, rfl⟩ -- HLT
  · exact .unassigned rfl rfl (operandCount_zero (by omega)) rfl (by simp [Instr.wellFormed, BitVec.le_def]; omega)
  · exact .one 0x04 0 rfl rfl (by simp; omega) (operandCount_zero (by omega)) rfl rfl -- OUT
  · exact .one 0x08 0 rfl rfl (by simp; omega) (operandCount_zero (by omega)) rfl rfl -- IN
  · exact .one 0x0C 1 rfl rfl (by simp; omega) (operandCount_one (by omega)) rfl rfl -- MOVI
  · exact .two 0x10 rfl rfl (by simp; omega) (operandCount_zero (by omega)) rfl rfl -- ADD
  · exact .two 0x20 rfl rfl (by simp; omega) (operandCount_zero (by omega)) rfl rfl -- SUB
  · exact .one 0x30 1 rfl rfl (by simp; omega) (operandCount_one (by omega)) rfl rfl -- ADDI
  · exact .one 0x34 1 rfl rfl (by simp; omega) (operandCount_one (by omega)) rfl rfl -- SUBI
  · exact .one 0x38 1 rfl rfl (by simp; omega) (operandCount_one (by omega)) rfl rfl -- ADCI
  · exact .one 0x3C 1 rfl rfl (by simp; omega) (operandCount_one (by omega)) rfl rfl -- CMPI
  · exact .two 0x40 rfl rfl (by simp; omega) (operandCount_zero (by omega)) rfl rfl -- AND
  · exact .two 0x50 rfl rfl (by simp; omega) (operandCount_zero (by omega)) rfl rfl -- OR
  · exact .two 0x60 rfl rfl (by simp; omega) (operandCount_zero (by omega)) rfl rfl -- XOR
  · exact .addr 0x70 ‹_› rfl rfl rfl rfl rfl -- JMP
  · exact .addr 0x71 ‹_› rfl rfl rfl rfl rfl -- JC
  · exact .addr 0x72 ‹_› rfl rfl rfl rfl rfl -- JNC
  · exact .addr 0x73 ‹_› rfl rfl rfl rfl rfl -- JZ
  · exact .addr 0x74 ‹_› rfl rfl rfl rfl rfl -- JNZ
  · exact .addr 0x75 ‹_› rfl rfl rfl rfl rfl -- CALL
  · exact .const 0x76 ‹_› ⟨rfl, rfl, rfl, rfl⟩ -- RET
  · exact .const 0x77 ‹_› ⟨rfl, rfl, rfl, rfl⟩
  · exact .one 0x78 0 rfl rfl (by simp; omega) (operandCount_zero (by omega)) rfl rfl -- INC
  · exact .one 0x7C 0 rfl rfl (by simp; omega) (operandCount_zero (by omega)) rfl rfl -- DEC
  · exact .two 0x80 rfl rfl (by simp; omega) (operandCount_zero (by omega)) rfl rfl -- MOV
  · exact .one 0x90 2 rfl rfl (by simp; omega) (operandCount_two (by omega)) hjoin rfl -- LD
  · exact .one 0x94 2 rfl rfl (by simp; omega) (operandCount_two (by omega)) hjoin rfl -- ST
  · exact .one 0x98 0 rfl rfl (by simp; omega) (operandCount_zero (by omega)) rfl rfl -- PUSH
  · exact .one 0x9C 0 rfl rfl (by simp; omega) (operandCount_zero (by omega)) rfl rfl -- POP
  · exact .addr 0xA0 ‹_› rfl rfl rfl rfl rfl -- MOVBP
  · exact .addr 0xA1 ‹_› rfl rfl rfl rfl rfl -- MOVSP
  · exact .const 0xA2 ‹_› ⟨rfl, rfl, rfl, rfl⟩ -- INCBP
  · exact .const 0xA3 ‹_› ⟨rfl, rfl, rfl, rfl⟩ -- DECBP
  · exact .one 0xA4 0 rfl rfl (by simp; omega) (operandCount_zero (by omega)) rfl rfl -- LDBP
  · exact .one 0xA8 0 rfl rfl (by simp; omega) (operandCount_zero (by omega)) rfl rfl -- STBP
  · exact .unassigned rfl rfl (operandCount_zero (by omega)) rfl (by simp [Instr.wellFormed, BitVec.le_def]; omega)
  · exact .one 0xB0 0 rfl rfl (by simp; omega) (operandCount_zero (by omega)) rfl rfl -- MOVBPL
  · exact .one 0xB4 0 rfl rfl (by simp; omega) (operandCount_zero (by omega)) rfl rfl -- MOVBPH
  · exact .one 0xB8 0 rfl rfl (by simp; omega) (operandCount_zero (by omega)) rfl rfl -- MOVSPL
  · exact .one 0xBC 0 rfl rfl (by simp; omega) (operandCount_zero (by omega)) rfl rfl -- MOVSPH
  · exact .unassigned rfl rfl (operandCount_zero (by omega)) rfl (by simp [Instr.wellFormed, BitVec.le_def]; omega)

/-- The row of the opcode and the operand bytes of a well-formed instruction is that instruction. -/
theorem decodeOpcode_opcode {i : Instr} {op : Byte} (hop : i.opcode = some op) (hwf : i.wellFormed = true) :
    decodeOpcode op (i.operands.getD 0 0) (i.operands.getD 1 0) = i := by
  have join : ∀ addr : Addr, joinBytes (hiByte addr) (loByte addr) = addr := Machine.joinBytes_hiByte_loByte
  cases i <;> cases hop
  case nop | hlt | ret | incbp | decbp | unassigned77 => rfl
  case outR r | inR r | inc r | dec r | push r | pop r | ldbp r | stbp r | movbpl r | movbph r | movspl r | movsph r =>
    cases r <;> rfl
  case movi r imm | addi r imm | subi r imm | adci r imm | cmpi r imm => cases r <;> rfl
  case add r1 r2 | sub r1 r2 | and r1 r2 | or r1 r2 | xor r1 r2 | mov r1 r2 => cases r1 <;> cases r2 <;> rfl
  case jmp addr => exact congrArg Instr.jmp (join addr)
  case jc addr => exact congrArg Instr.jc (join addr)
  case jnc addr => exact congrArg Instr.jnc (join addr)
  case jz addr => exact congrArg Instr.jz (join addr)
  case jnz addr => exact congrArg Instr.jnz (join addr)
  case call addr => exact congrArg Instr.call (join addr)
  case movbp addr => exact congrArg Instr.movbp (join addr)
  case movsp addr => exact congrArg Instr.movsp (join addr)
  case ld r addr => cases r <;> exact congrArg (Instr.ld _) (join addr)
  case st r addr => cases r <;> exact congrArg (Instr.st _) (join addr)
  all_goals
    simp only [Instr.wellFormed, Bool.and_eq_true, decide_eq_true_eq, BitVec.le_def, BitVec.reduceToNat] at hwf
    simp only [decodeOpcode]
    repeat rw [if_neg (by omega)]
  case unassigned02 => rw [if_pos (by omega)]
  case unassignedAC => rw [if_pos (by omega)]

/-- The operand bytes of an instruction are as many as its opcode has (R83). -/
theorem operands_length {i : Instr} {op : Byte} (hop : i.opcode = some op) (hwf : i.wellFormed = true) :
    i.operands.length = operandCount op := by
  have hreads := decodeOpcode_reads op (i.operands.getD 0 0) (i.operands.getD 1 0)
  rw [decodeOpcode_opcode hop hwf] at hreads
  rw [hreads.operands, List.length_take_of_le (operandCount_le op)]

theorem encode_of_opcode {i : Instr} {op : Byte} (hc : i.control = none) (hop : i.opcode = some op) :
    encode i = op :: i.operands := by
  simp [encode, hc, hop]

theorem control_of_opcode {i : Instr} {op : Byte} (hop : i.opcode = some op) : i.control = none := by
  cases i <;> cases hop <;> rfl

/-- Settles O4: the operands are as many as the opcode has, and the row of both is the instruction. -/
theorem decodeEncodeOpcode : Obligations.DecodeEncodeOpcode := by
  unfold Obligations.DecodeEncodeOpcode
  intro i op rest hop hwf
  rw [encode_of_opcode (control_of_opcode hop) hop, List.cons_append, decode_op8 _ _ _ (operands_length hop hwf),
    decodeOpcode_opcode hop hwf]

/-- What the decoder answers of an opcode: the row of the opcode and its operand bytes, and the bytes after them. -/
theorem decode_op8_inv {bytes rest : List Byte} {i : Instr} (h : decode .op8 bytes = .ok (i, rest)) :
    ∃ (op : Byte) (operands : List Byte), bytes = op :: (operands ++ rest) ∧ operands.length = operandCount op ∧
      i = decodeOpcode op (operands.getD 0 0) (operands.getD 1 0) := by
  cases bytes with
  | nil => cases h
  | cons op bytes =>
    simp only [decode] at h
    split at h
    case h_1 hn => cases h; exact ⟨op, [], rfl, hn.symm, rfl⟩
    case h_2 _ lo _ hn => cases h; exact ⟨op, [lo], rfl, hn.symm, rfl⟩
    case h_3 lo hi _ h0 h1 =>
      cases h
      have hle := operandCount_le op
      have hn0 : operandCount op ≠ 0 := h0
      have hn1 : operandCount op ≠ 1 := h1
      have hn : operandCount op = 2 := by omega
      exact ⟨op, [lo, hi], rfl, hn.symm, rfl⟩
    case h_4 => cases h

/-- The first bytes of a list of at most two are the list. -/
theorem take_getD_getD (bs : List Byte) (h : bs.length ≤ 2) : [bs.getD 0 0, bs.getD 1 0].take bs.length = bs := by
  match bs, h with
  | [], _ | [_], _ | [_, _], _ => rfl
  | _ :: _ :: _ :: _, h => simp only [List.length_cons] at h; omega

theorem wellFormed_of_control {i : Instr} {cw : ControlWord} (h : i.control = some cw) : i.wellFormed = true := by
  cases i <;> cases h <;> rfl

/-- Settles O5: a control word is packed from its fields, an opcode row has its opcode and operand bytes. -/
theorem encodeDecode : Obligations.EncodeDecode := by
  unfold Obligations.EncodeDecode
  intro f bytes i rest h
  match f, bytes with
  | .cw, [] | .cw, [_] => cases h
  | .cw, rom0 :: rom1 :: bytes =>
    cases h
    have hc := (ControlWord.unpack (controlBits rom0 rom1)).name_control
    refine ⟨?_, wellFormed_of_control hc, by simp [Instr.format, decodeControl, hc]⟩
    rw [decodeControl, encode_of_control hc, ControlWord.pack_unpack]
    exact congrArg₂ (fun lo hi => lo :: hi :: rest) (Machine.loByte_joinBytes rom1 rom0)
      (Machine.hiByte_joinBytes rom1 rom0)
  | .op8, bytes =>
    obtain ⟨op, operands, rfl, hlen, rfl⟩ := decode_op8_inv h
    have hreads := decodeOpcode_reads op (operands.getD 0 0) (operands.getD 1 0)
    have hops : (decodeOpcode op (operands.getD 0 0) (operands.getD 1 0)).operands = operands := by
      rw [hreads.operands, ← hlen, take_getD_getD operands (hlen ▸ operandCount_le op)]
    refine ⟨?_, hreads.wellFormed, by rw [Instr.format, hreads.control]; rfl⟩
    rw [encode_of_opcode hreads.control hreads.opcode, hops, List.cons_append]

/-- Settles O6: a control word is two bytes, and two bytes are enough for the operands of any opcode. -/
theorem noWordIsIllegal : Obligations.NoWordIsIllegal := by
  unfold Obligations.NoWordIsIllegal
  refine ⟨fun rom0 rom1 rest => ⟨_, rfl⟩, fun op lo hi rest => ?_⟩
  have hlen : ((lo :: hi :: rest).take (operandCount op)).length = operandCount op :=
    List.length_take_of_le ((operandCount_le op).trans (by simp))
  have hread := decode_op8 op _ ((lo :: hi :: rest).drop (operandCount op)) hlen
  rw [List.take_append_drop] at hread
  exact ⟨_, hread⟩

/-- The bytes of an instruction depend on the opcode and the argument kinds of its descriptor only. -/
theorem Machine.Descriptor.encode_eq (op : Byte) (args : Machine.ArgKinds) (c z : Machine.FlagReq)
    (steps : List CtrlBits) (vs : List Machine.ArgValue) :
    Machine.Descriptor.encode ⟨op, args, c, z, steps⟩ vs = Machine.Descriptor.encode ⟨op, args, .any, .any, []⟩ vs := rfl

/-- Settles O7: the words are read, and the descriptors' operands written, by evaluation. -/
theorem sampleWordsDecode : Obligations.SampleWordsDecode := by
  unfold Obligations.SampleWordsDecode
  refine ⟨rfl, rfl, rfl, rfl, rfl, rfl, fun c z steps => ?_, fun c z steps => ?_⟩
  · rw [Machine.Descriptor.encode_eq]; decide
  · rw [Machine.Descriptor.encode_eq]; decide

end Sys2Proof

namespace Sys2Proof.Machine

/-! ### One meaning for all rows of a word -/

/-- Every instruction of format `CW` is the micro-cycle of its control word (R101). -/
theorem exec_of_control {i : Instr} {cw : ControlWord} (h : i.control = some cw) (s : State) :
    exec i s = .next (runControl cw s) := by
  cases i <;> cases h <;> rfl

/-- Settles O8: a row of a word stands for the word, whose micro-cycle it runs. -/
theorem readingsShareOneMeaning : Obligations.ReadingsShareOneMeaning :=
  fun _ _ s h => exec_of_control (ControlWord.control_of_mem_readings h) s

end Sys2Proof.Machine
end

section
set_option Elab.async false

namespace Sys2Proof.Machine

/-! ### The address of a micro-cycle -/

/-- Settles O9: the address is its fields joined, and each field is a digit of the sum. -/
theorem controlStoreAddress : Obligations.ControlStoreAddress := by
  unfold Obligations.ControlStoreAddress
  intro s
  have haddr : s.romAddr.toNat = s.regI.toNat * 64 + s.cycle.toNat * 4 + (s.carryOf s.bank).toNat * 2 +
      (s.zeroOf s.bank).toNat := by
    unfold State.romAddr
    rw [toNat_append, toNat_append, toNat_append, toNat_append, BitVec.toNat_ofBool, BitVec.toNat_ofBool]
    have h0 : (0 : BitVec 1).toNat = 0 := rfl
    omega
  have hI := s.regI.isLt
  have hcycle := s.cycle.isLt
  have hc := (s.carryOf s.bank).toNat_lt
  have hz := (s.zeroOf s.bank).toNat_lt
  exact ⟨haddr, by omega⟩

/-! ### Steps run decoded instructions and complete -/

/-- Settles O10: the decoder reads the two bytes as the control word that a tick step runs. -/
theorem microCycleRunsControlWord : Obligations.MicroCycleRunsControlWord := by
  unfold Obligations.MicroCycleRunsControlWord
  intro s i hmode h
  rw [step_of_tick hmode, decode_cw_eq_decodeControl h]
  rfl

/-- Settles O11: the decoder reads the opcode and its operand bytes as the row that the step runs. -/
theorem instructionStepRunsOpcode : Obligations.InstructionStepRunsOpcode := by
  unfold Obligations.InstructionStepRunsOpcode
  intro s i rest hmode hb h
  rw [step_of_xrefBoundary hmode hb, decode_op8_eq_decodeOpcode h]
  rfl

/-- The micro-cycle that the sequencer runs is that of the fields of the control word it reads (R94, R101). -/
theorem tickStep_eq (s : State) :
    tickStep s = .next (runControl (ControlWord.unpack s.controlWord) s.pollInput) := by
  rw [tickStep, fetchControl, State.controlWord_pollInput, decodeControl]
  exact exec_of_control (ControlWord.name_control _) _

theorem exec_completes (i : Instr) (s : State) : ∃ t, exec i s = .next t := by
  obtain ⟨w, alu, bus, h⟩ | ⟨u, n, -, h⟩ := exec_cases i s
  · exact ⟨_, h⟩
  · exact ⟨_, h⟩

theorem runToBoundary_completes (n : Nat) (s : State) : ∃ t, runToBoundary n s = .next t := by
  induction n generalizing s with
  | zero => exact ⟨s, rfl⟩
  | succ n ih =>
    rw [runToBoundary, tickStep_eq]
    dsimp only
    split
    · exact ⟨_, rfl⟩
    · exact ih _

/-- Settles O13: micro-cycles and opcodes have one outcome each, and a step is one of them or a run of micro-cycles. -/
theorem nothingStops : Obligations.NothingStops := by
  unfold Obligations.NothingStops
  refine ⟨fun f => (nomatch f), exec_completes, fun s => ?_⟩
  cases hmode : s.mode with
  | tick => exact step_of_tick hmode ▸ exec_completes _ _
  | instruction =>
    by_cases hb : s.atXrefBoundary = true
    · exact step_of_xrefBoundary hmode hb ▸ exec_completes _ _
    · simpa [step, hmode, instructionStep, hb] using runToBoundary_completes 16 s

/-! ### Runs -/

theorem core_run_succ (n : Nat) (s t : State) (h : step s = .next t) : core.run (n + 1) s = core.run n t := by
  have hcore : core.step s = .next t := h
  simp only [Host.Core.run, hcore]

theorem step_tick_eq {s : State} (hmode : s.mode = .tick) :
    step s = .next (runControl (ControlWord.unpack s.controlWord) s.pollInput) := by
  rw [step, hmode]
  exact tickStep_eq s

theorem runControl_mode (cw : ControlWord) (s : State) : (runControl cw s).mode = s.mode := by
  obtain ⟨-, hmode, -⟩ := runSink_keeps cw.busAW cw.alu (drive cw.busAR cw.busB cw.busC s) s
  exact hmode

theorem runControl_tick (cw : ControlWord) (s : State) : (runControl cw s).tick = s.tick + 1 := by
  obtain ⟨-, -, htick, -⟩ := runSink_keeps cw.busAW cw.alu (drive cw.busAR cw.busB cw.busC s) s
  exact congrArg (· + 1) htick

/-- A run in tick mode completes in tick mode, `n` ticks later, and may be continued from where it ends. -/
theorem run_tick_mode (m : Nat) (s : State) (hmode : s.mode = .tick) :
    ∃ t : State, core.run m s = .next t ∧ t.mode = .tick ∧ t.tick = s.tick + m ∧
      ∀ n, core.run (m + n) s = core.run n t := by
  induction m generalizing s with
  | zero => exact ⟨s, rfl, hmode, rfl, fun n => by rw [Nat.zero_add]⟩
  | succ m ih =>
    have hstep := step_tick_eq hmode
    obtain ⟨t, hrun, htmode, htick, hsplit⟩ :=
      ih (runControl (ControlWord.unpack s.controlWord) s.pollInput) (by simp [runControl_mode, hmode])
    refine ⟨t, (core_run_succ m s _ hstep).trans hrun, htmode, ?_, fun n => ?_⟩
    · rw [htick, runControl_tick, State.pollInput_tick]; omega
    · rw [Nat.add_right_comm]
      exact (core_run_succ (m + n) s _ hstep).trans (hsplit n)

/-- Settles O14: one step of a run is one micro-cycle, and a run may be split anywhere. -/
theorem runIteratesMicroCycle : Obligations.RunIteratesMicroCycle := by
  unfold Obligations.RunIteratesMicroCycle
  intro m n s hmode
  obtain ⟨t, hrun, htmode, -, hsplit⟩ := run_tick_mode m s hmode
  exact ⟨core_run_succ n s _ (step_tick_eq hmode), t, hrun, htmode, hsplit n⟩

/-- Settles O15: every micro-cycle of a run adds one to `tick`. -/
theorem runCountsTicks : Obligations.RunCountsTicks := by
  unfold Obligations.RunCountsTicks
  intro n s hmode
  obtain ⟨t, hrun, -, htick, -⟩ := run_tick_mode n s hmode
  exact ⟨t, hrun, htick⟩

end Sys2Proof.Machine
end

section
set_option Elab.async false

namespace Sys2Proof.Machine

/-! ### The ALU in numbers -/

theorem nat_or_add_and (m n : Nat) : (m ||| n) + (m &&& n) = m + n := by
  induction m using Nat.strongRecOn generalizing n with
  | ind m ih =>
    by_cases hm : m = 0
    · simp [hm]
    · have hhalf := ih (m / 2) (by omega) (n / 2)
      have hor := Nat.or_div_two (a := m) (b := n)
      have hand := Nat.and_div_two (a := m) (b := n)
      have hor1 := Nat.or_mod_two_eq_one (a := m) (b := n)
      have hand1 := Nat.and_mod_two_eq_one (a := m) (b := n)
      omega

/-- The sum of two bytes is that of their bits in either and their bits in both. -/
theorem toNat_or_add_and (x y : Byte) : (x ||| y).toNat + (x &&& y).toNat = x.toNat + y.toNat := by
  rw [BitVec.toNat_or, BitVec.toNat_and, nat_or_add_and]

variable {w : Nat}

/-- `v` of a slice does not overflow its one further bit (R152). -/
theorem toNat_aluV (hw : 0 < w) (a b : BitVec w) (sel : BitVec 4) (cin : Bool) :
    (aluV a b sel cin).toNat = (aluP a b sel).toNat + (aluG a b sel).toNat + cin.toNat := by
  have hP := (aluP a b sel).isLt
  have hG := (aluG a b sel).isLt
  have hc := cin.toNat_lt
  have hpow : 2 ^ (w + 1) = 2 * 2 ^ w := by rw [Nat.pow_succ, Nat.mul_comm]
  have hone : 2 ≤ 2 ^ w := Nat.le_self_pow (Nat.pos_iff_ne_zero.mp hw) 2
  simp only [aluV, BitVec.toNat_add, BitVec.toNat_setWidth, BitVec.toNat_ofBool]
  rw [Nat.mod_eq_of_lt (a := (aluP a b sel).toNat) (by omega), Nat.mod_eq_of_lt (a := (aluG a b sel).toNat) (by omega),
    Nat.mod_eq_of_lt (a := cin.toNat) (by omega), Nat.mod_eq_of_lt (a := (aluP a b sel).toNat + _) (by omega),
    Nat.mod_eq_of_lt (by omega)]

/-- The carry of a slice is that of the sum of its two terms, in both modes (R152, D8). -/
theorem aluSlice_carry_toNat (hw : 0 < w) (a b : BitVec w) (sel : BitVec 4) (mode : AluMode) (cin : Bool) :
    (aluSlice a b ⟨sel, mode, cin⟩).carry.toNat =
      ((aluP a b sel).toNat + (aluG a b sel).toNat + cin.toNat) / 2 ^ w := by
  have hlt := (aluV a b sel cin).isLt
  have hpow : 2 ^ (w + 1) = 2 ^ w * 2 := pow_succ 2 w
  calc (aluSlice a b ⟨sel, mode, cin⟩).carry.toNat
    _ = (aluV a b sel cin).toNat / 2 ^ w % 2 := Nat.toNat_testBit _ w
    _ = (aluV a b sel cin).toNat / 2 ^ w := Nat.mod_eq_of_lt (Nat.div_lt_of_lt_mul (by omega))
    _ = _ := by rw [toNat_aluV hw]

theorem aluSlice_carry (a b : Byte) (sel : BitVec 4) (mode : AluMode) (cin : Bool) :
    (aluSlice a b ⟨sel, mode, cin⟩).carry =
      decide (256 ≤ (aluP a b sel).toNat + (aluG a b sel).toNat + cin.toNat) := by
  have hcarry := aluSlice_carry_toNat (by decide) a b sel mode cin
  cases h : (aluSlice a b ⟨sel, mode, cin⟩).carry <;> rw [h] at hcarry
  · exact (decide_eq_false (by rw [Bool.toNat_false] at hcarry; omega)).symm
  · exact (decide_eq_true (by rw [Bool.toNat_true] at hcarry; omega)).symm

/-- The result of a slice in arithmetic mode is the sum of its two terms and the carry input (R152). -/
theorem aluSlice_arith (hw : 0 < w) (a b : BitVec w) (sel : BitVec 4) (cin : Bool) :
    (aluSlice a b ⟨sel, .arith, cin⟩).f =
      BitVec.ofNat w ((aluP a b sel).toNat + (aluG a b sel).toNat + cin.toNat) := by
  apply BitVec.eq_of_toNat_eq
  rw [BitVec.toNat_ofNat, ← toNat_aluV hw]
  exact BitVec.toNat_setWidth w _

theorem getLsbD_gate (v : BitVec w) (select : Bool) (i : Nat) :
    (gate v select).getLsbD i = (select && v.getLsbD i) := by
  cases select <;> simp [gate]

/-- A bit of the "propagate" term depends on the same bits of the operands only (R151). -/
theorem getLsbD_aluP (a b : BitVec w) (sel : BitVec 4) {i : Nat} (hi : i < w) :
    (aluP a b sel).getLsbD i =
      (a.getLsbD i || sel.getLsbD 0 && b.getLsbD i || sel.getLsbD 1 && !b.getLsbD i) := by
  simp only [aluP, BitVec.getLsbD_or, getLsbD_gate, BitVec.getLsbD_not, hi, decide_true, Bool.true_and]

/-- A bit of the "generate" term depends on the same bits of the operands only (R151). -/
theorem getLsbD_aluG (a b : BitVec w) (sel : BitVec 4) {i : Nat} (hi : i < w) :
    (aluG a b sel).getLsbD i =
      (a.getLsbD i && (sel.getLsbD 3 && b.getLsbD i || sel.getLsbD 2 && !b.getLsbD i)) := by
  simp only [aluG, BitVec.getLsbD_and, BitVec.getLsbD_or, getLsbD_gate, BitVec.getLsbD_not, hi, decide_true,
    Bool.true_and]

/-- The terms of the unit are the terms of its slices side by side. -/
theorem extractLsb'_aluP (k : Nat) (hk : k ≤ 4) (a b : Byte) (sel : BitVec 4) :
    (aluP a b sel).extractLsb' k 4 = aluP (a.extractLsb' k 4) (b.extractLsb' k 4) sel := by
  apply BitVec.eq_of_getLsbD_eq
  intro i hi
  rw [getLsbD_aluP _ _ _ hi, BitVec.getLsbD_extractLsb', getLsbD_aluP _ _ _ (show k + i < 8 by omega)]
  simp only [BitVec.getLsbD_extractLsb', hi, decide_true, Bool.true_and]

theorem extractLsb'_aluG (k : Nat) (hk : k ≤ 4) (a b : Byte) (sel : BitVec 4) :
    (aluG a b sel).extractLsb' k 4 = aluG (a.extractLsb' k 4) (b.extractLsb' k 4) sel := by
  apply BitVec.eq_of_getLsbD_eq
  intro i hi
  rw [getLsbD_aluG _ _ _ hi, BitVec.getLsbD_extractLsb', getLsbD_aluG _ _ _ (show k + i < 8 by omega)]
  simp only [BitVec.getLsbD_extractLsb', hi, decide_true, Bool.true_and]

/-- A byte is its two halves. -/
theorem toNat_nibbles (x : Byte) : x.toNat = (x.extractLsb' 4 4).toNat * 16 + (x.extractLsb' 0 4).toNat := by
  have hx := x.isLt
  simp only [BitVec.extractLsb'_toNat, Nat.shiftRight_eq_div_pow]
  omega

theorem nibbles_append (x : Byte) : x.extractLsb' 4 4 ++ x.extractLsb' 0 4 = x := by
  apply BitVec.eq_of_toNat_eq
  rw [toNat_append, toNat_nibbles x]
  rfl

theorem extractLsb'_not (k : Nat) (hk : k ≤ 4) (x : Byte) : (~~~x).extractLsb' k 4 = ~~~(x.extractLsb' k 4) := by
  apply BitVec.eq_of_getLsbD_eq
  intro i hi
  simp [hi, show k + i < 8 by omega]

/-- The carry of the two slices is that of the unit: the low slice hands its own on (R186). -/
theorem alu8_carry (a b : Byte) (alu : AluFields) : (alu8 a b alu).carry = (aluSlice a b alu).carry := by
  obtain ⟨sel, mode, cin⟩ := alu
  have hP := toNat_nibbles (aluP a b sel)
  have hG := toNat_nibbles (aluG a b sel)
  rw [extractLsb'_aluP _ (by decide), extractLsb'_aluP _ (by decide)] at hP
  rw [extractLsb'_aluG _ (by decide), extractLsb'_aluG _ (by decide)] at hG
  apply bool_eq_of_toNat_eq
  simp only [alu8, alu4]
  rw [aluSlice_carry_toNat (by decide), aluSlice_carry_toNat (by decide), aluSlice_carry_toNat (by decide)]
  omega

/-- The result of the two slices is that of the unit: bit by bit in logic mode, with the low slice's carry in the sum of
the high one in arithmetic mode. -/
theorem alu8_f (a b : Byte) (alu : AluFields) : (alu8 a b alu).f = (aluSlice a b alu).f := by
  obtain ⟨sel, mode, cin⟩ := alu
  cases mode with
  | logic =>
    simp only [alu8, alu4, aluSlice, ← extractLsb'_aluP 0 (by decide), ← extractLsb'_aluP 4 (by decide),
      ← extractLsb'_aluG 0 (by decide), ← extractLsb'_aluG 4 (by decide), ← BitVec.extractLsb'_xor]
    rw [← extractLsb'_not _ (by decide), ← extractLsb'_not _ (by decide), nibbles_append]
  | arith =>
    have hP := toNat_nibbles (aluP a b sel)
    have hG := toNat_nibbles (aluG a b sel)
    rw [extractLsb'_aluP _ (by decide), extractLsb'_aluP _ (by decide)] at hP
    rw [extractLsb'_aluG _ (by decide), extractLsb'_aluG _ (by decide)] at hG
    apply BitVec.eq_of_toNat_eq
    simp only [alu8, alu4]
    rw [toNat_append, aluSlice_arith (by decide), aluSlice_arith (by decide), aluSlice_arith (by decide),
      aluSlice_carry_toNat (by decide)]
    simp only [BitVec.toNat_ofNat]
    omega

theorem aluSlice_zero {w : Nat} (a b : BitVec w) (alu : AluFields) :
    (aluSlice a b alu).zero = decide ((aluSlice a b alu).f = 0) := rfl

/-- Result and carry of the slices are those of the unit, and a byte is 0 when both its halves are. -/
theorem alu8_eq_aluSlice (a b : Byte) (alu : AluFields) : alu8 a b alu = aluSlice a b alu := by
  have hzero : (alu8 a b alu).zero = (aluSlice a b alu).zero := by
    rw [aluSlice_zero, ← alu8_f]
    simp only [alu8, alu4, aluSlice_zero]
    rw [← Bool.decide_and]
    congr 1
    rw [eq_iff_iff, ← BitVec.toNat_inj, ← BitVec.toNat_inj, ← BitVec.toNat_inj, toNat_append]
    have h0 : (0 : Nibble).toNat = 0 ∧ (0 : Byte).toNat = 0 := ⟨rfl, rfl⟩
    omega
  calc alu8 a b alu
    _ = ⟨(alu8 a b alu).f, (alu8 a b alu).carry, (alu8 a b alu).zero⟩ := rfl
    _ = aluSlice a b alu := by rw [alu8_f, alu8_carry, hzero]

/-- Settles O27: result, carry and zero flag of the slices are those of the unit. -/
theorem twoSlicesAreOneUnit : Obligations.TwoSlicesAreOneUnit := alu8_eq_aluSlice

/-! ### The thirty-two functions -/

/-- The two low bits of `aluSelect` choose the "propagate" term (R151). -/
theorem aluP_eq (a b : Byte) (sel : BitVec 4) :
    aluP a b sel =
      if sel.getLsbD 1 then (if sel.getLsbD 0 then 0xFF else a ||| ~~~b)
      else (if sel.getLsbD 0 then a ||| b else a) := by
  have hall : a ||| b ||| ~~~b = 0xFF := by rw [BitVec.or_assoc, BitVec.or_not_self, BitVec.or_allOnes]; rfl
  unfold aluP
  cases sel.getLsbD 1 <;> cases sel.getLsbD 0 <;> simp [gate, hall]

/-- The two high bits of `aluSelect` choose the "generate" term (R151). -/
theorem aluG_eq (a b : Byte) (sel : BitVec 4) :
    aluG a b sel =
      if sel.getLsbD 3 then (if sel.getLsbD 2 then a else a &&& b) else (if sel.getLsbD 2 then a &&& ~~~b else 0) := by
  unfold aluG
  cases sel.getLsbD 3 <;> cases sel.getLsbD 2 <;> simp [gate]
  exact BitVec.and_allOnes

/-- A function in arithmetic mode is the sum of any two bytes whose sum is that of its terms. -/
theorem aluSlice_sum {a b x y : Byte} {sel : BitVec 4} (cin : Bool)
    (h : (aluP a b sel).toNat + (aluG a b sel).toNat = x.toNat + y.toNat) :
    (aluSlice a b ⟨sel, .arith, cin⟩).f = BitVec.ofNat 8 (x.toNat + y.toNat + cin.toNat) ∧
    (aluSlice a b ⟨sel, .arith, cin⟩).carry = decide (256 ≤ x.toNat + y.toNat + cin.toNat) := by
  rw [aluSlice_arith (by decide), aluSlice_carry, h]
  exact ⟨rfl, rfl⟩

/-- The terms of the sixteen arithmetic functions add up to what their rules add (R154 to R169). -/
theorem arithmetic_terms (x y : Byte) :
    ∀ e ∈ [(0x0#4, x, 0), (0x1#4, x ||| y, 0), (0x2#4, x ||| ~~~y, 0), (0x3#4, 0xFF, 0), (0x4#4, x, x &&& ~~~y),
      (0x5#4, x ||| y, x &&& ~~~y), (0x6#4, x, ~~~y), (0x7#4, x &&& ~~~y, 0xFF), (0x8#4, x, x &&& y), (0x9#4, x, y),
      (0xA#4, x ||| ~~~y, x &&& y), (0xB#4, x &&& y, 0xFF), (0xC#4, x, x), (0xD#4, x ||| y, x), (0xE#4, x ||| ~~~y, x),
      (0xF#4, x, (0xFF : Byte))],
    (aluP x y e.1).toNat + (aluG x y e.1).toNat = e.2.1.toNat + e.2.2.toNat := by
  simp only [aluP_eq, aluG_eq, List.forall_mem_cons, BitVec.reduceGetLsb, Bool.false_eq_true, if_true, if_false,
    List.not_mem_nil, false_implies, implies_true, true_and, and_true]
  exact ⟨toNat_or_add_and x (~~~y), Nat.add_comm .., toNat_or_add_and x y, Nat.add_comm .., Nat.add_comm ..⟩

/-- The sixteen logic functions are the bitwise functions of their rules, and what their terms are (R170 to R185). -/
theorem logic_terms (x y : Byte) :
    ∀ e ∈ [(0x0#4, ~~~x, x, 0), (0x1#4, ~~~(x ||| y), x ||| y, 0), (0x2#4, ~~~x &&& y, x ||| ~~~y, 0),
      (0x3#4, 0, 0xFF, 0), (0x4#4, ~~~(x &&& y), x, x &&& ~~~y), (0x5#4, ~~~y, x ||| y, x &&& ~~~y),
      (0x6#4, x ^^^ y, x ||| ~~~y, x &&& ~~~y), (0x7#4, x &&& ~~~y, 0xFF, x &&& ~~~y),
      (0x8#4, ~~~x ||| y, x, x &&& y), (0x9#4, ~~~(x ^^^ y), x ||| y, x &&& y), (0xA#4, y, x ||| ~~~y, x &&& y),
      (0xB#4, x &&& y, 0xFF, x &&& y), (0xC#4, 0xFF, x, x), (0xD#4, x ||| ~~~y, x ||| y, x),
      (0xE#4, x ||| y, x ||| ~~~y, x), (0xF#4, x, 0xFF, (x : Byte))],
    ~~~(e.2.2.1 ^^^ e.2.2.2) = e.2.1 ∧ aluP x y e.1 = e.2.2.1 ∧ aluG x y e.1 = e.2.2.2 := by
  simp only [aluP_eq, aluG_eq, List.forall_mem_cons, BitVec.reduceGetLsb, Bool.false_eq_true, if_true, if_false,
    List.not_mem_nil, false_implies, implies_true, and_true]
  have hff : (0xFF : Byte) = BitVec.allOnes 8 := rfl
  have h0 : (0 : Byte) = 0#8 := rfl
  refine ⟨?_, ?_, ?_, ?_, ?_, ?_, ?_, ?_, ?_, ?_, ?_, ?_, ?_, ?_, ?_, ?_⟩
  -- Bit by bit, each row is one line of a truth table.
  all_goals
    apply BitVec.eq_of_getLsbD_eq
    intro i hi
    simp only [hff, h0, BitVec.getLsbD_not, BitVec.getLsbD_xor, BitVec.getLsbD_or, BitVec.getLsbD_and,
      BitVec.getLsbD_zero,
      BitVec.getLsbD_allOnes, hi, decide_true]
    cases x.getLsbD i <;> cases y.getLsbD i <;> rfl

/-- `ARITH 9` is addition with the carry input (R163). -/
theorem alu8_add (a b : Byte) (cin : Bool) :
    (alu8 a b ⟨9, .arith, cin⟩).f = BitVec.ofNat 8 (a.toNat + b.toNat + cin.toNat) ∧
    (alu8 a b ⟨9, .arith, cin⟩).carry = decide (256 ≤ a.toNat + b.toNat + cin.toNat) := by
  rw [alu8_eq_aluSlice]
  exact aluSlice_sum cin (arithmetic_terms a b (9, a, b) (by simp))

/-- `ARITH 6` adds the complement: a difference, less 1 without the carry input, whose carry means no borrow (R160). -/
theorem alu8_sub (a b : Byte) (cin : Bool) :
    (alu8 a b ⟨6, .arith, cin⟩).f = a - b - BitVec.ofNat 8 (1 - cin.toNat) ∧
    (alu8 a b ⟨6, .arith, cin⟩).carry = decide (b.toNat + 1 ≤ a.toNat + cin.toNat) := by
  obtain ⟨hf, hcarry⟩ := aluSlice_sum (x := a) (y := ~~~b) cin (arithmetic_terms a b (6, a, ~~~b) (by simp))
  have hb := b.isLt
  rw [alu8_eq_aluSlice, hf, hcarry, BitVec.toNat_not]
  refine ⟨?_, decide_eq_decide.mpr (by omega)⟩
  apply BitVec.eq_of_toNat_eq
  have hc := cin.toNat_lt
  simp only [BitVec.toNat_ofNat, BitVec.toNat_sub]
  omega

/-- `ARITH 12` is a shift to the left through the carry (R166). -/
theorem alu8_shift (a b : Byte) (cin : Bool) :
    (alu8 a b ⟨12, .arith, cin⟩).f = BitVec.ofNat 8 (2 * a.toNat + cin.toNat) ∧
    (alu8 a b ⟨12, .arith, cin⟩).carry = decide (128 ≤ a.toNat) := by
  obtain ⟨hf, hcarry⟩ := aluSlice_sum (x := a) (y := a) cin (arithmetic_terms a b (12, a, a) (by simp))
  have hc := cin.toNat_lt
  rw [alu8_eq_aluSlice, hf, hcarry, Nat.two_mul]
  exact ⟨rfl, decide_eq_decide.mpr (by omega)⟩

/-- `ARITH 0` with a carry input is an increment (R154). -/
theorem alu8_inc (a b : Byte) :
    (alu8 a b ⟨0, .arith, true⟩).f = a + 1 ∧ (alu8 a b ⟨0, .arith, true⟩).carry = decide (a = 255) := by
  obtain ⟨hf, hcarry⟩ := aluSlice_sum true (arithmetic_terms a b (0, a, 0) (by simp))
  have ha := a.isLt
  rw [alu8_eq_aluSlice, hf, hcarry]
  refine ⟨BitVec.eq_of_toNat_eq (by simp), decide_eq_decide.mpr ?_⟩
  rw [← BitVec.toNat_inj]
  simp
  omega

/-- `ARITH 15` without a carry input is a decrement (R169). -/
theorem alu8_dec (a b : Byte) :
    (alu8 a b ⟨15, .arith, false⟩).f = a - 1 ∧ (alu8 a b ⟨15, .arith, false⟩).carry = decide (a ≠ 0) := by
  obtain ⟨hf, hcarry⟩ := aluSlice_sum false (arithmetic_terms a b (15, a, 0xFF) (by simp))
  have ha := a.isLt
  rw [alu8_eq_aluSlice, hf, hcarry]
  refine ⟨BitVec.eq_of_toNat_eq (by simp [Nat.add_comm]), decide_eq_decide.mpr ?_⟩
  rw [Ne, ← BitVec.toNat_inj]
  simp
  omega

/-- A function in logic mode is the bitwise function of its terms; its carry is that of their sum (R152, D8). -/
theorem alu8_logic {a b f p g : Byte} {sel : BitVec 4} (cin : Bool)
    (h : ~~~(p ^^^ g) = f ∧ aluP a b sel = p ∧ aluG a b sel = g) :
    (alu8 a b ⟨sel, .logic, cin⟩).f = f ∧
    (alu8 a b ⟨sel, .logic, cin⟩).carry = decide (256 ≤ p.toNat + g.toNat + cin.toNat) := by
  obtain ⟨rfl, rfl, rfl⟩ := h
  rw [alu8_eq_aluSlice]
  exact ⟨rfl, aluSlice_carry a b sel .logic cin⟩

theorem alu8_zero (a b : Byte) (alu : AluFields) : (alu8 a b alu).zero = decide ((alu8 a b alu).f = 0) := by
  rw [alu8_eq_aluSlice]
  rfl

/-- Settles O28: the rows are the sums of their terms, read as integers. -/
theorem aluArithmetic : Obligations.AluArithmetic := by
  unfold Obligations.AluArithmetic
  intro a b cin
  obtain ⟨hadd, haddc⟩ := alu8_add a b cin
  obtain ⟨hsub, hsubc⟩ := alu8_sub a b true
  obtain ⟨hsub1, hsub1c⟩ := alu8_sub a b false
  obtain ⟨hshift, hshiftc⟩ := alu8_shift a b cin
  have hdiff : (alu8 a b ⟨6, .arith, true⟩).f = a - b := by rw [hsub]; simp
  refine ⟨⟨by rw [hadd, BitVec.toNat_ofNat], haddc⟩, ⟨hdiff, ?_, ?_⟩, ⟨hsub1, ?_⟩,
    ⟨by rw [hshift, BitVec.toNat_ofNat], ?_⟩, alu8_inc a b, alu8_dec a b⟩
  · rw [hsubc]; exact decide_eq_decide.mpr (by simp [BitVec.le_def])
  · rw [alu8_zero, hdiff]; exact decide_eq_decide.mpr (by bv_omega)
  · rw [hsub1c]; exact decide_eq_decide.mpr (by rw [BitVec.lt_def, Bool.toNat_false]; omega)
  · rw [hshiftc]
    apply bool_eq_of_toNat_eq
    have ha := a.isLt
    rw [BitVec.getLsbD, Nat.toNat_testBit]
    by_cases h : 128 ≤ a.toNat
    · rw [decide_eq_true h, Bool.toNat_true]; omega
    · rw [decide_eq_false h, Bool.toNat_false]; omega

end Sys2Proof.Machine
end

section
set_option Elab.async false

namespace Sys2Proof.Machine

/-! ### The access matrix: what each sink does to each place (R37) -/

variable (w : BusAW) (alu : AluFields) (bus : Buses) (s : State)

theorem runSink_slot (k : Slot) :
    (runSink w alu bus s).slot k = if w = .reg ∧ k = s.slotA then bus.a else s.slot k := by
  cases w
  case reg => simp [runSink, sinkReg, State.slot_setSlot]
  all_goals
    rw [if_neg (by simp)]
    cases k <;> simp [State.slot, runSink, sinkD, sinkAlu, sinkMem, sinkOut, sinkPc, sinkSp, sinkBp, sinkMa, sinkPcInc,
      sinkSpInc, sinkSpDec, sinkBpInc, sinkBpDec, sinkAdv]

theorem runSink_carryOf (k : Bool) :
    (runSink w alu bus s).carryOf k =
      if w = .alu ∧ k = s.bank then (aluSlice bus.a bus.b alu).carry else s.carryOf k := by
  cases w
  case alu =>
    obtain ⟨-, hcarry, -⟩ := s.latchAlu_spec s.bank (alu8 bus.a bus.b alu)
    simp [runSink, sinkAlu, hcarry, alu8_carry]
  all_goals
    rw [if_neg (by simp)]
    cases k <;> simp [State.carryOf, runSink, sinkReg, sinkD, sinkMem, sinkOut, sinkPc, sinkSp, sinkBp, sinkMa, sinkPcInc,
      sinkSpInc, sinkSpDec, sinkBpInc, sinkBpDec, sinkAdv]

theorem runSink_zeroOf (k : Bool) :
    (runSink w alu bus s).zeroOf k =
      if w = .alu ∧ k = s.bank then (aluSlice bus.a bus.b alu).zero else s.zeroOf k := by
  cases w
  case alu =>
    obtain ⟨-, -, hzero⟩ := s.latchAlu_spec s.bank (aluSlice bus.a bus.b alu)
    simp [runSink, sinkAlu, alu8_eq_aluSlice, hzero]
  all_goals
    rw [if_neg (by simp)]
    cases k <;> simp [State.zeroOf, runSink, sinkReg, sinkD, sinkMem, sinkOut, sinkPc, sinkSp, sinkBp, sinkMa, sinkPcInc,
      sinkSpInc, sinkSpDec, sinkBpInc, sinkBpDec, sinkAdv]

theorem runSink_regD : (runSink w alu bus s).regD = if w = .d then bus.a else s.regD := by
  cases w <;> simp [runSink, sinkReg, sinkD, sinkAlu, sinkMem, sinkOut, sinkPc, sinkSp, sinkBp, sinkMa, sinkPcInc,
    sinkSpInc, sinkSpDec, sinkBpInc, sinkBpDec, sinkAdv]

theorem runSink_regT : (runSink w alu bus s).regT = if w = .alu then (aluSlice bus.a bus.b alu).f else s.regT := by
  cases w
  case alu =>
    obtain ⟨hT, -⟩ := s.latchAlu_spec s.bank (alu8 bus.a bus.b alu)
    simp [runSink, sinkAlu, hT, alu8_f]
  all_goals
    simp [runSink, sinkReg, sinkD, sinkMem, sinkOut, sinkPc, sinkSp, sinkBp, sinkMa, sinkPcInc, sinkSpInc, sinkSpDec,
      sinkBpInc, sinkBpDec, sinkAdv]

theorem runSink_regI : (runSink w alu bus s).regI = if w = .adv then bus.a else s.regI := by
  cases w <;> simp [runSink, sinkReg, sinkD, sinkAlu, sinkMem, sinkOut, sinkPc, sinkSp, sinkBp, sinkMa, sinkPcInc,
    sinkSpInc, sinkSpDec, sinkBpInc, sinkBpDec, sinkAdv]

theorem runSink_regOUT : (runSink w alu bus s).regOUT = if w = .out then bus.a else s.regOUT := by
  cases w <;> simp [runSink, sinkReg, sinkD, sinkAlu, sinkMem, sinkOut, sinkPc, sinkSp, sinkBp, sinkMa, sinkPcInc,
    sinkSpInc, sinkSpDec, sinkBpInc, sinkBpDec, sinkAdv]

theorem runSink_pc :
    (runSink w alu bus s).pc =
      if w = .pc then putHalf bus.half s.pc bus.a else if w = .pcInc ∨ w = .adv then s.pc + 1 else s.pc := by
  cases w <;> simp [runSink, sinkReg, sinkD, sinkAlu, sinkMem, sinkOut, sinkPc, sinkSp, sinkBp, sinkMa, sinkPcInc,
    sinkSpInc, sinkSpDec, sinkBpInc, sinkBpDec, sinkAdv]

theorem runSink_sp :
    (runSink w alu bus s).sp =
      if w = .sp then s.spFix (putHalf bus.half s.sp bus.a) else if w = .spInc then s.spFix (s.sp + 1)
      else if w = .spDec then s.spFix (s.sp - 1) else s.sp := by
  cases w <;> simp [runSink, sinkReg, sinkD, sinkAlu, sinkMem, sinkOut, sinkPc, sinkSp, sinkBp, sinkMa, sinkPcInc,
    sinkSpInc, sinkSpDec, sinkBpInc, sinkBpDec, sinkAdv]

theorem runSink_bp :
    (runSink w alu bus s).bp =
      if w = .bp then putHalf bus.half s.bp bus.a else if w = .bpInc then s.bp + 1
      else if w = .bpDec then s.bp - 1 else s.bp := by
  cases w <;> simp [runSink, sinkReg, sinkD, sinkAlu, sinkMem, sinkOut, sinkPc, sinkSp, sinkBp, sinkMa, sinkPcInc,
    sinkSpInc, sinkSpDec, sinkBpInc, sinkBpDec, sinkAdv]

theorem runSink_ma : (runSink w alu bus s).ma = if w = .ma then putHalf bus.half s.ma bus.a else s.ma := by
  cases w <;> simp [runSink, sinkReg, sinkD, sinkAlu, sinkMem, sinkOut, sinkPc, sinkSp, sinkBp, sinkMa, sinkPcInc,
    sinkSpInc, sinkSpDec, sinkBpInc, sinkBpDec, sinkAdv]

theorem runSink_memRead (x : Addr) :
    (runSink w alu bus s).memRead x =
      if w = .mem ∧ x = bus.addr ∧ s.cfg.bootSize ≤ bus.addr.toNat then bus.a else s.memRead x := by
  obtain ⟨hcfg, -⟩ := runSink_keeps w alu bus s
  by_cases hw : w = .mem
  · subst hw
    simp [runSink, sinkMem, State.memRead_memWrite]
  · rw [State.memRead_congr (runSink_ram w alu bus s hw) hcfg]
    simp [hw]

/-! ### The same in numbers -/

theorem toNat_putHalf (half : BusB) (pair : Addr) (v : Byte) :
    (putHalf half pair v).toNat = withHalf half pair.toNat v := by
  have hlo : (loByte pair).toNat = pair.toNat % 256 := by simp [loByte]
  have hhi : (hiByte pair).toNat = pair.toNat / 256 := by
    have := pair.isLt
    simp only [hiByte, BitVec.extractLsb'_toNat, Nat.shiftRight_eq_div_pow]
    omega
  cases half <;> simp [putHalf, withHalf, toNat_joinBytes, hlo, hhi]

theorem toNat_spFix (v : Addr) : (s.spFix v).toNat = withBase s.cfg.spBaseHi v.toNat := by
  simp [State.spFix, withBase, toNat_joinBytes]

theorem toNat_add_one (v : Addr) : (v + 1).toNat = (v.toNat + 1) % 65536 := BitVec.toNat_add v 1

theorem toNat_sub_one (v : Addr) : (v - 1).toNat = (v.toNat + 65535) % 65536 := by
  rw [BitVec.toNat_sub, Nat.add_comm]
  rfl

theorem clearsCycle_iff : clearsCycle w = true ↔ w = .rst ∨ w = .adv := by cases w <;> decide

/-- The counters and `IN` after a micro-cycle (R98 to R100). -/
theorem runBuses_counters :
    (runBuses w alu bus s).cycle = (if w = .rst ∨ w = .adv then 0 else s.cycle + 1) ∧
    (runBuses w alu bus s).tick = s.tick + 1 ∧
    (runBuses w alu bus s).regIN = (if (s.tick + 1) % s.cfg.clkTogglePeriod = 0 then s.regIN ^^^ 0x10 else s.regIN) := by
  obtain ⟨hcfg, -, htick, hcycle, hin⟩ := runSink_keeps w alu bus s
  refine ⟨?_, ?_, ?_⟩
  · rw [runBuses, State.endCycle_cycle, hcycle]
    exact if_congr (clearsCycle_iff w) rfl rfl
  · rw [runBuses, State.endCycle_tick, htick]
  · simp only [runBuses, State.endCycle, State.endTick, htick, hcfg, hin]

/-- A micro-cycle changes every place as the access matrix says, place by place (R37, R101). -/
theorem runBuses_at (p : Place) : (runBuses w alu bus s).at p = sinkPost w alu bus.a bus.b bus.half s p := by
  obtain ⟨hcycle, htick, hin⟩ := runBuses_counters w alu bus s
  have hend : ∀ k, (runBuses w alu bus s).slot k = (runSink w alu bus s).slot k := fun k => by cases k <;> rfl
  cases p with
  | slot k => simp only [State.at, sinkPost, hend, runSink_slot, apply_ite BitVec.toNat]
  | d => exact (congrArg BitVec.toNat (runSink_regD w alu bus s)).trans (apply_ite ..)
  | t => exact (congrArg BitVec.toNat (runSink_regT w alu bus s)).trans (apply_ite ..)
  | i => exact (congrArg BitVec.toNat (runSink_regI w alu bus s)).trans (apply_ite ..)
  | out => exact (congrArg BitVec.toNat (runSink_regOUT w alu bus s)).trans (apply_ite ..)
  | pc =>
    refine (congrArg BitVec.toNat (runSink_pc w alu bus s)).trans ?_
    simp only [sinkPost, apply_ite BitVec.toNat, toNat_putHalf, toNat_add_one]
  | sp =>
    refine (congrArg BitVec.toNat (runSink_sp w alu bus s)).trans ?_
    simp only [sinkPost, apply_ite BitVec.toNat, toNat_spFix, toNat_putHalf, toNat_add_one, toNat_sub_one]
  | bp =>
    refine (congrArg BitVec.toNat (runSink_bp w alu bus s)).trans ?_
    simp only [sinkPost, apply_ite BitVec.toNat, toNat_putHalf, toNat_add_one, toNat_sub_one]
  | ma =>
    refine (congrArg BitVec.toNat (runSink_ma w alu bus s)).trans ?_
    simp only [sinkPost, apply_ite BitVec.toNat, toNat_putHalf]
  | carry k => exact (congrArg Bool.toNat (runSink_carryOf w alu bus s k)).trans (apply_ite ..)
  | zero k => exact (congrArg Bool.toNat (runSink_zeroOf w alu bus s k)).trans (apply_ite ..)
  | input => simp only [State.at, sinkPost, hin, apply_ite BitVec.toNat, BitVec.toNat_xor]; rfl
  | tick => exact htick
  | cycle =>
    simp only [State.at, sinkPost, hcycle, apply_ite BitVec.toNat, BitVec.toNat_add]; rfl

/-- What any micro-cycle does to the whole state (R101). -/
theorem runBuses_sinkEffect : s.sinkEffect (runBuses w alu bus s) w alu bus.a bus.b bus.half bus.addr := by
  obtain ⟨hcfg, hmode, -⟩ := runSink_keeps w alu bus s
  refine ⟨runBuses_at w alu bus s, fun x => ?_, runSink_trace w alu bus s, hcfg, hmode⟩
  rw [runBuses, State.memRead_endCycle, runSink_memRead]

/-! ### Frames of micro-cycles -/

/-- The places that a sink writes, the counters and `IN` aside (R130 to R147). -/
def sinkPlaces (s : State) : BusAW → List Place
  | .reg => [.slot s.slotA]
  | .d => [.d]
  | .alu => [.t, .carry s.bank, .zero s.bank]
  | .mem => []
  | .out => [.out]
  | .pc | .pcInc => [.pc]
  | .sp | .spInc | .spDec => [.sp]
  | .bp | .bpInc | .bpDec => [.bp]
  | .ma => [.ma]
  | .rst => []
  | .adv => [.i, .pc]

variable {w alu bus s}

/-- A place that is not written holds what it held. -/
theorem sinkPost_of_not_mem {a b : Byte} {half : BusB} {p : Place} (h : p ∉ sinkPlaces s w ++ cyclePlaces) :
    sinkPost w alu a b half s p = s.at p := by
  have hcycle : p ∉ cyclePlaces := fun hp => h (List.mem_append_right _ hp)
  have hw : ∀ v, p ∈ sinkPlaces s v → w ≠ v := by
    rintro v hv rfl
    exact h (List.mem_append_left _ hv)
  cases p with
  | slot k => exact if_neg (fun ⟨hr, hk⟩ => hw .reg (by simp [sinkPlaces, hk]) hr)
  | d => exact if_neg (hw .d (by simp [sinkPlaces]))
  | t => exact if_neg (hw .alu (by simp [sinkPlaces]))
  | i => exact if_neg (hw .adv (by simp [sinkPlaces]))
  | out => exact if_neg (hw .out (by simp [sinkPlaces]))
  | ma => exact if_neg (hw .ma (by simp [sinkPlaces]))
  | pc =>
    refine (if_neg (hw .pc (by simp [sinkPlaces]))).trans (if_neg (not_or.mpr ⟨?_, ?_⟩))
    · exact hw .pcInc (by simp [sinkPlaces])
    · exact hw .adv (by simp [sinkPlaces])
  | sp =>
    exact (if_neg (hw .sp (by simp [sinkPlaces]))).trans
      ((if_neg (hw .spInc (by simp [sinkPlaces]))).trans (if_neg (hw .spDec (by simp [sinkPlaces]))))
  | bp =>
    exact (if_neg (hw .bp (by simp [sinkPlaces]))).trans
      ((if_neg (hw .bpInc (by simp [sinkPlaces]))).trans (if_neg (hw .bpDec (by simp [sinkPlaces]))))
  | carry k => exact if_neg (fun ⟨hr, hk⟩ => hw .alu (by simp [sinkPlaces, hk]) hr)
  | zero k => exact if_neg (fun ⟨hr, hk⟩ => hw .alu (by simp [sinkPlaces, hk]) hr)
  | input | tick | cycle => exact absurd (by simp [cyclePlaces]) hcycle

theorem runBuses_keepsBut : s.keepsBut (runBuses w alu bus s) (sinkPlaces s w ++ cyclePlaces) := fun p hp =>
  (runBuses_at w alu bus s p).trans (sinkPost_of_not_mem hp)

theorem runBuses_endsCycle : s.endsCycle (runBuses w alu bus s) (clearsCycle w) := by
  obtain ⟨hcfg, -, htick, hcycle, hin⟩ := runSink_keeps w alu bus s
  simpa only [State.endsCycle, runBuses, hcfg, htick, hcycle, hin] using
    (runSink w alu bus s).endCycle_endsCycle (clearsCycle w)

theorem runBuses_keepsHost : s.keepsHost (runBuses w alu bus s) := by
  obtain ⟨hcfg, hmode, -⟩ := runSink_keeps w alu bus s
  exact ⟨hcfg, hmode⟩

theorem runBuses_keepsMemory (hw : w ≠ .mem) : s.keepsMemory (runBuses w alu bus s) := fun x => by
  rw [runBuses, State.memRead_endCycle, runSink_memRead, if_neg (fun h => hw h.1)]

theorem runBuses_silent (hw : w ≠ .out) : s.silent (runBuses w alu bus s) := by
  have h := runSink_trace w alu bus s
  rwa [if_neg hw, List.append_nil] at h

/-- A micro-cycle that neither stores nor puts out. -/
theorem runBuses_microCycle (hmem : w ≠ .mem) (hout : w ≠ .out) :
    s.microCycle (runBuses w alu bus s) (clearsCycle w) (sinkPlaces s w) :=
  ⟨runBuses_endsCycle, runBuses_keepsBut, runBuses_keepsMemory hmem, runBuses_silent hout, runBuses_keepsHost⟩

/-- An ALU micro-cycle: the 8-bit unit on the two buses (R132, R187). -/
theorem runBuses_aluEffect (alu : AluFields) (bus : Buses) (s : State) :
    s.aluEffect (runBuses .alu alu bus s) (aluSlice bus.a bus.b alu).f (aluSlice bus.a bus.b alu).carry := by
  refine ⟨runSink_regT .alu alu bus s, ?_, ?_, runBuses_microCycle (by decide) (by decide)⟩
  · exact (runSink_carryOf .alu alu bus s s.bank).trans (if_pos ⟨rfl, rfl⟩)
  · exact (runSink_zeroOf .alu alu bus s s.bank).trans (if_pos ⟨rfl, rfl⟩)

/-- The micro-cycle of a sink row that neither stores nor puts out. -/
theorem drive_microCycle (w : BusAW) (ar : BusAR) (b : BusB) (c : BusC) (alu : AluFields) (s : State) (hmem : w ≠ .mem)
    (hout : w ≠ .out) : s.microCycle (runBuses w alu (drive ar b c s) s) (clearsCycle w) (sinkPlaces s w) :=
  runBuses_microCycle hmem hout

/-! ### The sink rows -/

/-- Settles O17: `AW.REG` and `AW.D` write one place, `AW.OUT` writes one place and the trace. -/
theorem byteSinks : Obligations.ByteSinks := by
  unfold Obligations.ByteSinks
  intro ar b c alu s
  refine ⟨⟨_, rfl, s.slot_setSlot_self .., drive_microCycle .reg ar b c alu s (by decide) (by decide)⟩,
    ⟨_, rfl, rfl, drive_microCycle .d ar b c alu s (by decide) (by decide)⟩,
    ⟨runBuses .out alu (drive ar b c s) s, rfl, rfl, rfl, runBuses_endsCycle, runBuses_keepsBut,
      runBuses_keepsMemory (by decide), runBuses_keepsHost⟩⟩

/-- Settles O18: the sink latches the result of the two slices, which are one unit. -/
theorem aluSink : Obligations.AluSink := fun ar b c alu s => ⟨_, rfl, runBuses_aluEffect alu (drive ar b c s) s⟩

/-- Settles O19: the one sink that writes memory writes no place but the counters. -/
theorem memorySink : Obligations.MemorySink := by
  unfold Obligations.MemorySink
  intro ar b c alu s
  refine ⟨runBuses .mem alu (drive ar b c s) s, rfl, fun x => ?_, runBuses_endsCycle, runBuses_keepsBut,
    runBuses_silent (by decide), runBuses_keepsHost⟩
  rw [runBuses, State.memRead_endCycle, runSink_memRead]
  simp [drive]

/-- Settles O20: the selected half of the pair is replaced, and `SP` gets its base. -/
theorem halfSinks : Obligations.HalfSinks := by
  unfold Obligations.HalfSinks
  intro ar b c alu s
  refine ⟨⟨_, rfl, toNat_putHalf .., drive_microCycle .pc ar b c alu s (by decide) (by decide)⟩,
    ⟨_, rfl, ?_, drive_microCycle .sp ar b c alu s (by decide) (by decide)⟩,
    ⟨_, rfl, toNat_putHalf .., drive_microCycle .bp ar b c alu s (by decide) (by decide)⟩,
    ⟨_, rfl, toNat_putHalf .., drive_microCycle .ma ar b c alu s (by decide) (by decide)⟩⟩
  exact (toNat_spFix s _).trans (congrArg _ (toNat_putHalf ..))

/-- Settles O21: the pairs count modulo 65536, and `SP` gets its base. -/
theorem countingSinks : Obligations.CountingSinks := by
  unfold Obligations.CountingSinks
  intro ar b c alu s
  refine ⟨⟨_, rfl, toNat_add_one _, drive_microCycle .pcInc ar b c alu s (by decide) (by decide)⟩,
    ⟨_, rfl, ?_, drive_microCycle .spInc ar b c alu s (by decide) (by decide)⟩,
    ⟨_, rfl, ?_, drive_microCycle .spDec ar b c alu s (by decide) (by decide)⟩,
    ⟨_, rfl, toNat_add_one _, drive_microCycle .bpInc ar b c alu s (by decide) (by decide)⟩,
    ⟨_, rfl, toNat_sub_one _, drive_microCycle .bpDec ar b c alu s (by decide) (by decide)⟩⟩
  · exact (toNat_spFix s _).trans (congrArg _ (toNat_add_one _))
  · exact (toNat_spFix s _).trans (congrArg _ (toNat_sub_one _))

/-- Settles O22: `AW.RST` writes no place but the counters, `AW.ADV` and the fetch write `I` and `PC`. -/
theorem sequencingSinks : Obligations.SequencingSinks := by
  unfold Obligations.SequencingSinks
  intro ar b c alu s
  exact ⟨⟨_, rfl, drive_microCycle .rst ar b c alu s (by decide) (by decide)⟩,
    ⟨_, rfl, rfl, toNat_add_one _, drive_microCycle .adv ar b c alu s (by decide) (by decide)⟩,
    ⟨_, rfl, rfl, toNat_add_one _, drive_microCycle .adv .mem .reg .pc ControlWord.noop.alu s (by decide) (by decide)⟩⟩

/-! ### The source rows -/

/-- The half of a pair on the primary bus (R124). -/
theorem halfOf_eq (b : BusB) (pair : Addr) : (if b = .d then hiByte pair else loByte pair) = halfOf b pair := by
  cases b <;> rfl

/-- Settles O23: each row puts what it names on the primary bus, and the sink does the rest. -/
theorem primarySources : Obligations.PrimarySources := by
  unfold Obligations.PrimarySources
  intro w b c alu s
  simp only [halfOf_eq]
  exact ⟨⟨_, rfl, runBuses_sinkEffect w alu _ s⟩, ⟨_, rfl, runBuses_sinkEffect w alu _ s⟩,
    ⟨_, rfl, runBuses_sinkEffect w alu _ s⟩, ⟨_, rfl, runBuses_sinkEffect w alu _ s⟩,
    ⟨_, rfl, runBuses_sinkEffect w alu _ s⟩, ⟨_, rfl, runBuses_sinkEffect w alu _ s⟩,
    ⟨_, rfl, runBuses_sinkEffect w alu _ s⟩, ⟨_, rfl, runBuses_sinkEffect w alu _ s⟩⟩

/-- Settles O24: each row puts what it names on the secondary or the address bus, and the sink does the rest. -/
theorem secondaryAndAddressSources : Obligations.SecondaryAndAddressSources := by
  unfold Obligations.SecondaryAndAddressSources
  intro ar w b c alu s
  exact ⟨⟨_, rfl, runBuses_sinkEffect w alu _ s⟩, ⟨_, rfl, runBuses_sinkEffect w alu _ s⟩,
    ⟨_, rfl, runBuses_sinkEffect w alu _ s⟩, ⟨_, rfl, runBuses_sinkEffect w alu _ s⟩,
    ⟨_, rfl, runBuses_sinkEffect w alu _ s⟩, ⟨_, rfl, runBuses_sinkEffect w alu _ s⟩⟩

/-! ### The function rows -/

/-- The micro-cycle of an arithmetic row whose two terms add up to `p + q`. -/
theorem runFunction_arith {sel : BitVec 4} {ar : BusAR} {b : BusB} {c : BusC} {s : State} (cin : Bool) {p q : Byte}
    (h : (aluP (busA ar b (abus c s) s) (busBv b s) sel).toNat + (aluG (busA ar b (abus c s) s) (busBv b s) sel).toNat =
      p.toNat + q.toNat) :
    ∃ t, runFunction .arith sel ar b c cin s = .next t ∧
      s.aluEffect t (BitVec.ofNat 8 (p.toNat + q.toNat + cin.toNat)) (decide (256 ≤ p.toNat + q.toNat + cin.toNat)) := by
  obtain ⟨hf, hcarry⟩ := aluSlice_sum cin h
  rw [← hf, ← hcarry]
  exact ⟨_, rfl, runBuses_aluEffect ⟨sel, .arith, cin⟩ (drive ar b c s) s⟩

/-- The micro-cycle of a logic row with the result `f` and the terms `p` and `q`. -/
theorem runFunction_logic {sel : BitVec 4} {ar : BusAR} {b : BusB} {c : BusC} {s : State} (cin : Bool) {f p q : Byte}
    (h : ~~~(p ^^^ q) = f ∧ aluP (busA ar b (abus c s) s) (busBv b s) sel = p ∧
      aluG (busA ar b (abus c s) s) (busBv b s) sel = q) :
    ∃ t, runFunction .logic sel ar b c cin s = .next t ∧
      s.aluEffect t f (decide (256 ≤ p.toNat + q.toNat + cin.toNat)) := by
  obtain ⟨hf, hcarry⟩ := alu8_logic cin h
  rw [← hf, ← hcarry, alu8_eq_aluSlice]
  exact ⟨_, rfl, runBuses_aluEffect ⟨sel, .logic, cin⟩ (drive ar b c s) s⟩

/-- Settles O25: each row has its `aluSelect`, and the terms of that function add up to what the row adds. -/
theorem arithmeticFunctions : Obligations.ArithmeticFunctions := by
  unfold Obligations.ArithmeticFunctions
  rintro ar b c cin s x y rfl rfl
  obtain ⟨h0, h1, h2, h3, h4, h5, h6, h7, h8, h9, h10, h11, h12, h13, h14, h15, -⟩ := by
    simpa only [List.forall_mem_cons] using arithmetic_terms (busA ar b (abus c s) s) (busBv b s)
  simp only [List.forall_mem_cons]
  exact ⟨runFunction_arith cin h0, runFunction_arith cin h1, runFunction_arith cin h2, runFunction_arith cin h3,
    runFunction_arith cin h4, runFunction_arith cin h5, runFunction_arith cin h6, runFunction_arith cin h7,
    runFunction_arith cin h8, runFunction_arith cin h9, runFunction_arith cin h10, runFunction_arith cin h11,
    runFunction_arith cin h12, runFunction_arith cin h13, runFunction_arith cin h14, runFunction_arith cin h15,
    fun _ h => (nomatch h)⟩

/-- Settles O26: each row has its `aluSelect`, and the bitwise function of its terms is what the row says. -/
theorem logicFunctions : Obligations.LogicFunctions := by
  unfold Obligations.LogicFunctions
  rintro ar b c cin s x y rfl rfl
  obtain ⟨h0, h1, h2, h3, h4, h5, h6, h7, h8, h9, h10, h11, h12, h13, h14, h15, -⟩ := by
    simpa only [List.forall_mem_cons] using logic_terms (busA ar b (abus c s) s) (busBv b s)
  simp only [List.forall_mem_cons]
  exact ⟨runFunction_logic cin h0, runFunction_logic cin h1, runFunction_logic cin h2, runFunction_logic cin h3,
    runFunction_logic cin h4, runFunction_logic cin h5, runFunction_logic cin h6, runFunction_logic cin h7,
    runFunction_logic cin h8, runFunction_logic cin h9, runFunction_logic cin h10, runFunction_logic cin h11,
    runFunction_logic cin h12, runFunction_logic cin h13, runFunction_logic cin h14, runFunction_logic cin h15,
    fun _ h => (nomatch h)⟩

end Sys2Proof.Machine
end

section
set_option Elab.async false

namespace Sys2Proof.Machine

/-! ### The control word of a micro-cycle of XREF-1 -/

/-- The control store is XREF-1 with nothing changed (R262). -/
def State.runsXref (s : State) : Prop := s.cfg.fill = .xref1 ∧ s.cfg.rom0 = [] ∧ s.cfg.rom1 = []

theorem State.atXrefBoundary_iff (s : State) : s.atXrefBoundary = true ↔ s.cycle = 0 ∧ s.runsXref := by
  simp [State.atXrefBoundary, State.runsXref, and_assoc]

/-- The flags that are part of the control-store address (R92, R93). -/
def State.flags (s : State) : Bool × Bool := (s.carryOf s.bank, s.zeroOf s.bank)

theorem romWord_xref {g : Config} (hfill : g.fill = .xref1) (h0 : g.rom0 = []) (h1 : g.rom1 = []) (a : RomAddr) :
    romWord g a = xrefWordAt a.toNat := by
  simp only [romWord, h0, h1, hfill, Memory.read, rom0Blank, rom1Blank, fillWord]
  exact controlBits_loByte_hiByte _

theorem decide_digit (b : Bool) : decide (b.toNat = 1) = b := by cases b <;> rfl

/-- The digits of the address choose opcode, step and flags (R93, R201). -/
theorem State.controlWord_xref {s : State} (h : s.runsXref) :
    s.controlWord = xrefWord s.regI.toNat s.cycle.toNat s.flags := by
  obtain ⟨hfill, h0, h1⟩ := h
  obtain ⟨haddr, hlt⟩ := controlStoreAddress s
  have hcycle := s.cycle.isLt
  have hc := (s.carryOf s.bank).toNat_lt
  have hz := (s.zeroOf s.bank).toNat_lt
  have hbank : s.regI.getLsbD 7 = s.bank := rfl
  rw [hbank] at haddr
  have hop : s.romAddr.toNat / 64 = s.regI.toNat := by omega
  have hstep : s.romAddr.toNat / 4 % 16 = s.cycle.toNat := by omega
  have hcarry : s.romAddr.toNat / 2 % 2 = (s.carryOf s.bank).toNat := by omega
  have hzero : s.romAddr.toNat % 2 = (s.zeroOf s.bank).toNat := by omega
  rw [State.controlWord, romWord_xref hfill h0 h1, xrefWordAt, if_pos (by omega), hop, hstep, hcarry, hzero,
    decide_digit, decide_digit]
  rfl

/-! ### What the data path does not read

Of the state, `mode`, `cycle` and `tick` are read by no bus and by no sink but `AW.OUT`, `IN` by one source only, and
`OUT` and the trace by nothing at all. -/

/-- `s` with these fields taken from `o`. -/
def State.overlay (s o : State) : State :=
  { s with
    regIN := o.regIN, regOUT := o.regOUT, cycle := o.cycle, tick := o.tick, trace := o.trace, mode := o.mode }

theorem drive_overlay {ar : BusAR} (b : BusB) (c : BusC) (s o : State) (h : ar ≠ .input ∨ o.regIN = s.regIN) :
    drive ar b c (s.overlay o) = drive ar b c s := by
  have hslot : ∀ k, (s.overlay o).slot k = s.slot k := fun k => by cases k <;> rfl
  have haddr : abus c (s.overlay o) = abus c s := by cases c <;> rfl
  have hA : busA ar b (abus c s) (s.overlay o) = busA ar b (abus c s) s := by
    cases ar with
    | reg => exact hslot _
    | input => exact h.resolve_left (fun hne => hne rfl)
    | d | t | mem | pc | sp | bp => rfl
  have hB : busBv b (s.overlay o) = busBv b s := by
    cases b
    · exact hslot _
    · rfl
  simp only [drive, haddr, hA, hB]

theorem runSink_overlay {w : BusAW} (alu : AluFields) (bus : Buses) (s o : State) (h : w ≠ .out) :
    runSink w alu bus (s.overlay o) = (runSink w alu bus s).overlay o := by
  cases w with
  | reg =>
    have hk : (s.overlay o).slotA = s.slotA := rfl
    simp only [runSink, sinkReg, hk]
    cases s.slotA <;> rfl
  | alu =>
    have hk : (s.overlay o).bank = s.bank := rfl
    simp only [runSink, sinkAlu, hk]
    cases s.bank <;> rfl
  | mem =>
    simp only [runSink, sinkMem, State.memWrite]
    rw [apply_ite (State.overlay · o)]
    rfl
  | out => exact absurd rfl h
  | d | pc | sp | bp | ma | pcInc | spInc | spDec | bpInc | bpDec | rst | adv => rfl

/-! ### Micro-cycles as data and time -/

/-- What the control word `w` writes, its time aside. -/
def runWord (w : CtrlBits) (s : State) : State :=
  runSink (ControlWord.unpack w).busAW (ControlWord.unpack w).alu
    (drive (ControlWord.unpack w).busAR (ControlWord.unpack w).busB (ControlWord.unpack w).busC s) s

theorem runControl_unpack (w : CtrlBits) (s : State) :
    runControl (ControlWord.unpack w) s = (runWord w s).endCycle (clearsCycle (ControlWord.unpack w).busAW) := rfl

/-- `n` ticks after the collaborator acted, and the collaborator again after each. -/
def State.wait (p : State) : Nat → State
  | 0 => p
  | n + 1 => (p.wait n).endTick.pollInput

theorem State.wait_succ (p : State) (n : Nat) : p.wait (n + 1) = p.endTick.pollInput.wait n := by
  induction n with
  | zero => rfl
  | succ n ih => rw [State.wait, ih]; rfl

theorem State.idleTicks_endTick (n : Nat) (p : State) : p.endTick.idleTicks n = (p.wait n).endTick := by
  induction n generalizing p with
  | zero => rfl
  | succ n ih => rw [State.idleTicks, ih, State.wait_succ]

theorem State.finish_eq (u : State) (n : Nat) : u.finish (n + 1) = (u.fetchNext.wait n).endTick :=
  State.idleTicks_endTick n u.fetchNext

/-- `p` with another `IN` and another `tick`. -/
def State.atTime (u p : State) : State := { u with regIN := p.regIN, tick := p.tick }

theorem State.endTick_atTime {u p : State} (hcfg : u.cfg = p.cfg) : (u.atTime p).endTick = u.atTime p.endTick := by
  simp only [State.endTick, State.atTime, hcfg]

theorem State.pollInput_atTime {u p : State} (hcfg : u.cfg = p.cfg) : (u.atTime p).pollInput = u.atTime p.pollInput := by
  simp only [State.pollInput, State.atTime, hcfg]
  split <;> rfl

theorem State.wait_cfg (p : State) (n : Nat) : (p.wait n).cfg = p.cfg := by
  induction n with
  | zero => rfl
  | succ n ih => simp [State.wait, ih]

/-- How the clock and the collaborator change `IN` and `tick` depends on these two and the parameters only. -/
theorem State.wait_atTime {u p : State} (hcfg : u.cfg = p.cfg) (n : Nat) :
    (u.atTime p).wait n = u.atTime (p.wait n) := by
  induction n with
  | zero => rfl
  | succ n ih =>
    rw [State.wait, State.wait, ih, State.endTick_atTime (hcfg.trans (p.wait_cfg n).symm),
      State.pollInput_atTime (p := (p.wait n).endTick) (hcfg.trans (p.wait_cfg n).symm)]

/-! ### Following a microprogram -/

/-- `u` is what data-path writes have made of `p`: the same machine at the same time. -/
structure State.Follows (p u : State) : Prop where
  cfg : u.cfg = p.cfg
  mode : u.mode = p.mode
  tick : u.tick = p.tick
  cycle : u.cycle = 0
  regIN : u.regIN = p.regIN

theorem State.Follows.write {p u : State} (h : p.Follows u) (w : CtrlBits) : p.Follows (runWord w u) := by
  obtain ⟨hcfg, hmode, htick, hcycle, hin⟩ := runSink_keeps (ControlWord.unpack w).busAW (ControlWord.unpack w).alu
    (drive (ControlWord.unpack w).busAR (ControlWord.unpack w).busB (ControlWord.unpack w).busC u) u
  exact ⟨hcfg.trans h.cfg, hmode.trans h.mode, htick.trans h.tick, hcycle.trans h.cycle, hin.trans h.regIN⟩

/-- The state in which micro-cycle `i` of an instruction begins, the collaborator having acted: `p` is the state in which
the first one began, `u` what the writes since have made of it. -/
def State.midway (p u : State) (i : Nat) : State := { u.atTime (p.wait i) with cycle := BitVec.ofNat 4 i }

theorem State.Follows.midway_zero {p u : State} (h : p.Follows u) : p.midway u 0 = u := by
  have hcycle : BitVec.ofNat 4 0 = u.cycle := h.cycle.symm
  simp only [State.midway, State.atTime, State.wait, ← h.regIN, ← h.tick, hcycle]

/-- The end of a micro-cycle that does not clear `cycle` is the beginning of the next. -/
theorem State.Follows.endCycle_midway {p u : State} (h : p.Follows u) (i : Nat) :
    ((p.midway u i).endCycle false).pollInput = p.midway u (i + 1) := by
  have hcycle : BitVec.ofNat 4 i + 1 = BitVec.ofNat 4 (i + 1) := (BitVec.ofNat_add i 1).symm
  have hcfg : ({ u with cycle := BitVec.ofNat 4 (i + 1) } : State).cfg = (p.wait i).cfg :=
    h.cfg.trans (p.wait_cfg i).symm
  calc ((p.midway u i).endCycle false).pollInput
    _ = (({ u with cycle := BitVec.ofNat 4 i + 1 } : State).atTime (p.wait i)).endTick.pollInput := rfl
    _ = p.midway u (i + 1) := by
      rw [hcycle, State.endTick_atTime hcfg, State.pollInput_atTime (p := (p.wait i).endTick) hcfg]
      rfl

/-- The closing fetch in micro-cycle `i` is the end of an instruction of `i + 1` micro-cycles (R221). -/
theorem State.Follows.fetch_midway {p u : State} (h : p.Follows u) (i : Nat) :
    (runWord 0x007C (p.midway u i)).endCycle true = u.finish (i + 1) := by
  have hcfg : u.fetchNext.cfg = p.cfg := h.cfg
  have hstart : u.fetchNext = u.fetchNext.atTime p := by
    simp only [State.atTime, ← h.regIN, ← h.tick]
    rfl
  calc (runWord 0x007C (p.midway u i)).endCycle true
    _ = (u.fetchNext.atTime (p.wait i)).endTick := rfl
    _ = u.finish (i + 1) := by rw [State.finish_eq, hstart, State.wait_atTime hcfg]; rfl

/-- A word in step `i` of a microprogram that neither ends it nor, after the first step, reads `IN` or writes `OUT`. -/
def plainWord (i : Nat) (w : CtrlBits) : Bool :=
  let cw := ControlWord.unpack w
  !clearsCycle cw.busAW && (decide (i = 0) || (decide (cw.busAR ≠ .input) && decide (cw.busAW ≠ .out)))

theorem runWord_output (w : CtrlBits) (u : State) (h : (ControlWord.unpack w).busAW ≠ .out) :
    (runWord w u).regOUT = u.regOUT ∧ (runWord w u).trace = u.trace :=
  ⟨(runSink_regOUT _ _ _ u).trans (if_neg h), (runSink_trace _ _ _ u).trans (by rw [if_neg h, List.append_nil])⟩

theorem State.Follows.runWord_midway {p u : State} (h : p.Follows u) {i : Nat} {w : CtrlBits}
    (hw : plainWord i w = true) : runWord w (p.midway u i) = p.midway (runWord w u) i := by
  simp only [plainWord, Bool.and_eq_true, Bool.or_eq_true, decide_eq_true_eq] at hw
  obtain ⟨-, rfl | ⟨har, haw⟩⟩ := hw
  · rw [h.midway_zero, (h.write w).midway_zero]
  · have hover : p.midway u i = u.overlay (p.midway u i) := rfl
    obtain ⟨hout, htrace⟩ := runWord_output w u haw
    have hmode := (h.write w).mode.trans h.mode.symm
    calc runWord w (p.midway u i)
      _ = (runWord w u).overlay (p.midway u i) := by
        rw [hover, runWord, drive_overlay _ _ _ _ (.inl har), runSink_overlay _ _ _ _ haw]
        rfl
      _ = p.midway (runWord w u) i := by
        simp only [State.midway, State.overlay, State.atTime, hout, htrace, hmode]

/-- `xrefFollows op f i ws`: from step `i` on, with the flags `f`, the words of opcode `op` in XREF-1 are `ws` and then
the fetch. Behind a word of the ALU, whose flags select the next one (R330), this holds for all flags. -/
def xrefFollows (op : Nat) : Bool × Bool → Nat → List CtrlBits → Bool
  | f, i, [] => xrefWord op i f == 0x007C
  | f, i, w :: ws =>
    xrefWord op i f == w && plainWord i w &&
      if (ControlWord.unpack w).busAW = .alu then flagCopies.all fun g => xrefFollows op g (i + 1) ws
      else xrefFollows op f (i + 1) ws

/-- The words of a microprogram, one after the other. -/
def runWords (ws : List CtrlBits) (u : State) : State := ws.foldl (fun v w => runWord w v) u

theorem runToBoundary_succ (n : Nat) (s : State) :
    runToBoundary (n + 1) s =
      let t := runControl (ControlWord.unpack s.controlWord) s.pollInput
      if t.cycle = 0 then .next t else runToBoundary n t := by
  rw [runToBoundary, tickStep_eq]

theorem flags_mem (f : Bool × Bool) : f ∈ flagCopies := by
  obtain ⟨c, z⟩ := f
  cases c <;> cases z <;> decide

/-- A word that is not one of the ALU leaves the flags that are part of the address, and no plain word writes `I`. -/
theorem runWord_flags {w : CtrlBits} {u : State} {i : Nat} (hw : plainWord i w = true) :
    (runWord w u).regI = u.regI ∧ ((ControlWord.unpack w).busAW ≠ .alu → (runWord w u).flags = u.flags) := by
  have hadv : (ControlWord.unpack w).busAW ≠ .adv := by
    intro h
    simp [plainWord, h, clearsCycle] at hw
  have hI : (runWord w u).regI = u.regI := (runSink_regI _ _ _ u).trans (if_neg hadv)
  have hbank : (runWord w u).bank = u.bank := congrArg (BitVec.getLsbD · 7) hI
  refine ⟨hI, fun halu => ?_⟩
  rw [State.flags, hbank, runWord, runSink_carryOf, runSink_zeroOf, if_neg (fun h => halu h.1),
    if_neg (fun h => halu h.1)]
  rfl

/-- The sequencer reads the word of step `i` for the opcode and the flags that the writes have left. -/
theorem State.Follows.controlWord {p u s : State} (h : p.Follows u) (hx : p.runsXref) {i : Nat} (hi : i < 16)
    (hs : s.pollInput = p.midway u i) : s.controlWord = xrefWord u.regI.toNat i u.flags := by
  have hpoll : s.pollInput.runsXref := by
    have hcfg : s.pollInput.cfg = p.cfg := (congrArg State.cfg hs).trans h.cfg
    rwa [State.runsXref, hcfg]
  have hstep : (BitVec.ofNat 4 i).toNat = i := by rw [BitVec.toNat_ofNat]; omega
  rw [← s.controlWord_pollInput, State.controlWord_xref hpoll, hs]
  exact congrArg (fun k => xrefWord u.regI.toNat k u.flags) hstep

/-- The fetch in step `i` ends the instruction. -/
theorem State.Follows.run_fetch {p u s : State} (h : p.Follows u) (hx : p.runsXref) {i : Nat} (hi : i < 16)
    (hs : s.pollInput = p.midway u i) (hword : xrefWord u.regI.toNat i u.flags = 0x007C) (n : Nat) :
    runToBoundary (n + 1) s = .next (u.finish (i + 1)) := by
  have hend : runControl (ControlWord.unpack s.controlWord) s.pollInput = u.finish (i + 1) := by
    rw [h.controlWord hx hi hs, hword, hs]
    exact h.fetch_midway i
  rw [runToBoundary_succ, hend]
  exact if_pos (State.finish_cycle u (i + 1))

/-- A plain word in step `i` leads to step `i + 1`. -/
theorem State.Follows.run_word {p u s : State} (h : p.Follows u) (hx : p.runsXref) {i : Nat} (hi : i + 1 < 16)
    (hs : s.pollInput = p.midway u i) {w : CtrlBits} (hword : xrefWord u.regI.toNat i u.flags = w)
    (hw : plainWord i w = true) :
    ∃ t, t.pollInput = p.midway (runWord w u) (i + 1) ∧ ∀ n, runToBoundary (n + 1) s = runToBoundary n t := by
  have hclear : clearsCycle (ControlWord.unpack w).busAW = false := by
    simp only [plainWord, Bool.and_eq_true, Bool.not_eq_true'] at hw
    exact hw.1
  have hend : runControl (ControlWord.unpack s.controlWord) s.pollInput = (p.midway (runWord w u) i).endCycle false := by
    rw [h.controlWord hx (by omega) hs, hword, hs, runControl_unpack, h.runWord_midway hw, hclear]
  have hcycle : ((p.midway (runWord w u) i).endCycle false).cycle ≠ 0 := by
    have hnext : ((p.midway (runWord w u) i).endCycle false).cycle = BitVec.ofNat 4 (i + 1) :=
      (BitVec.ofNat_add i 1).symm
    rw [hnext, Ne, ← BitVec.toNat_inj, BitVec.toNat_ofNat]
    exact fun h0 => absurd (h0.symm.trans (Nat.mod_eq_of_lt hi)) (by simp)
  refine ⟨_, (h.write w).endCycle_midway i, fun n => ?_⟩
  rw [runToBoundary_succ, hend]
  exact if_neg hcycle

/-- Micro-cycle by micro-cycle, a microprogram writes what its words write and ends with the fetch. -/
theorem State.Follows.run_words {p : State} (hx : p.runsXref) (ws : List CtrlBits) {n i : Nat} {u s : State}
    (h : p.Follows u) (hs : s.pollInput = p.midway u i) (hws : xrefFollows u.regI.toNat u.flags i ws = true)
    (hi : i + ws.length < 16) (hn : ws.length < n) :
    runToBoundary n s = .next ((runWords ws u).finish (i + ws.length + 1)) := by
  obtain ⟨n, rfl⟩ : ∃ m, n = m + 1 := ⟨n - 1, by omega⟩
  induction ws generalizing n i u s with
  | nil =>
    simp only [xrefFollows, beq_iff_eq] at hws
    exact h.run_fetch hx hi hs hws n
  | cons w ws ih =>
    simp only [xrefFollows, Bool.and_eq_true, beq_iff_eq] at hws
    obtain ⟨⟨hword, hw⟩, hrest⟩ := hws
    simp only [List.length_cons] at hi hn
    obtain ⟨hI, hflags⟩ := runWord_flags (u := u) hw
    have hnext : xrefFollows (runWord w u).regI.toNat (runWord w u).flags (i + 1) ws = true := by
      rw [hI]
      split at hrest
      · exact List.all_eq_true.mp hrest _ (flags_mem _)
      · rwa [hflags ‹_›]
    obtain ⟨t, ht, hrun⟩ := h.run_word hx (by omega) hs hword hw
    obtain ⟨n, rfl⟩ : ∃ m, n = m + 1 := ⟨n - 1, by omega⟩
    rw [hrun, ih (h.write w) ht hnext (by omega) n (by omega), List.length_cons, Nat.add_assoc i, Nat.add_comm 1]
    rfl

/-- The flags that are part of the address are those of bank 0 for an opcode below 0x80 (R31, R92). -/
theorem bank_eq (s : State) : s.bank = decide (128 ≤ s.regI.toNat) := by
  have hI := s.regI.isLt
  apply bool_eq_of_toNat_eq
  rw [State.bank, BitVec.getLsbD, Nat.toNat_testBit]
  by_cases h : 128 ≤ s.regI.toNat
  · rw [decide_eq_true h, Bool.toNat_true]; omega
  · rw [decide_eq_false h, Bool.toNat_false]; omega

/-- From an XREF-1 boundary, a microprogram of the opcode in `I` runs to the next boundary (R221). -/
theorem runToBoundary_program {s : State} (hb : s.atXrefBoundary = true) (ws : List CtrlBits)
    (hws : xrefFollows s.regI.toNat s.flags 0 ws = true) (hlen : ws.length < 16) :
    runToBoundary 16 s = .next ((runWords ws s.pollInput).finish (ws.length + 1)) := by
  obtain ⟨hcycle, hx⟩ := s.atXrefBoundary_iff.mp hb
  have hpoll : s.pollInput.runsXref := by rwa [State.runsXref, State.pollInput_cfg]
  have h : s.pollInput.Follows s.pollInput := ⟨rfl, rfl, rfl, by rw [State.pollInput_cycle, hcycle], rfl⟩
  have hflags : s.pollInput.flags = s.flags := by
    simp [State.flags, State.carryOf, State.zeroOf, State.bank]
  have hstart : xrefFollows s.pollInput.regI.toNat s.pollInput.flags 0 ws = true := by
    rwa [State.pollInput_regI, hflags]
  rw [State.Follows.run_words hpoll ws h h.midway_zero.symm hstart (by omega) hlen, Nat.zero_add]

end Sys2Proof.Machine
end

section
set_option Elab.async false

namespace Sys2Proof.Machine

/-! ### The words of XREF-1 -/

section
variable (s : State)

theorem runWord_0006 : runWord 0x0006#16 s = sinkReg (loByte s.sp) s := rfl
theorem runWord_0007 : runWord 0x0007#16 s = sinkReg (loByte s.bp) s := rfl
theorem runWord_0086 : runWord 0x0086#16 s = sinkReg (hiByte s.sp) s := rfl
theorem runWord_0087 : runWord 0x0087#16 s = sinkReg (hiByte s.bp) s := rfl
theorem runWord_0304 : runWord 0x0304#16 s = sinkReg (s.memRead s.bp) s := rfl
theorem runWord_2410 :
    runWord 0x2410#16 s = sinkAlu ⟨9, .arith, false⟩ (s.slot s.slotA) (s.slot s.slotB) s := rfl
theorem runWord_2490 : runWord 0x2490#16 s = sinkAlu ⟨9, .arith, false⟩ (s.slot s.slotA) s.regD s := rfl
theorem runWord_3C10 :
    runWord 0x3C10#16 s = sinkAlu ⟨15, .arith, false⟩ (s.slot s.slotA) (s.slot s.slotB) s := rfl
theorem runWord_5810 :
    runWord 0x5810#16 s = sinkAlu ⟨6, .logic, false⟩ (s.slot s.slotA) (s.slot s.slotB) s := rfl
theorem runWord_6810 :
    runWord 0x6810#16 s = sinkAlu ⟨10, .logic, false⟩ (s.slot s.slotA) (s.slot s.slotB) s := rfl
theorem runWord_6C10 :
    runWord 0x6C10#16 s = sinkAlu ⟨11, .logic, false⟩ (s.slot s.slotA) (s.slot s.slotB) s := rfl
theorem runWord_7810 :
    runWord 0x7810#16 s = sinkAlu ⟨14, .logic, false⟩ (s.slot s.slotA) (s.slot s.slotB) s := rfl
theorem runWord_8010 :
    runWord 0x8010#16 s = sinkAlu ⟨0, .arith, true⟩ (s.slot s.slotA) (s.slot s.slotB) s := rfl
theorem runWord_9810 :
    runWord 0x9810#16 s = sinkAlu ⟨6, .arith, true⟩ (s.slot s.slotA) (s.slot s.slotB) s := rfl
theorem runWord_9890 : runWord 0x9890#16 s = sinkAlu ⟨6, .arith, true⟩ (s.slot s.slotA) s.regD s := rfl
theorem runWord_A490 : runWord 0xA490#16 s = sinkAlu ⟨9, .arith, true⟩ (s.slot s.slotA) s.regD s := rfl

end

/-! ### From the words of an opcode to its net effect -/

/-- For the `n` opcodes from `lo` on and all flags that meet the condition, XREF-1 has the words `ws` and then the
fetch. -/
def hasProgram (lo n : Nat) (cond : Bool × Bool → Bool) (ws : List CtrlBits) : Bool :=
  (List.range' lo n).all fun op => (flagCopies.filter cond).all fun f => xrefFollows op f 0 ws

/-- An instruction whose program writes `u` before its fetch. -/
theorem run_program {s u : State} {lo n : Nat} {cond : Bool × Bool → Bool} {ws : List CtrlBits}
    (h : hasProgram lo n cond ws = true) (hb : s.atXrefBoundary = true) (hlo : lo ≤ s.pollInput.regI.toNat)
    (hhi : s.pollInput.regI.toNat < lo + n) (hcond : cond s.flags = true) (hlen : ws.length < 16)
    (hu : runWords ws s.pollInput = u) : runToBoundary 16 s = .next (u.finish (ws.length + 1)) := by
  simp only [hasProgram, List.all_eq_true] at h
  rw [State.pollInput_regI] at hlo hhi
  have hws := h s.regI.toNat (List.mem_range'_1.mpr ⟨hlo, hhi⟩) s.flags (List.mem_filter.mpr ⟨flags_mem _, hcond⟩)
  rw [runToBoundary_program hb ws hws hlen, hu]

/-- Without a condition on the flags. -/
theorem run_program_always {s u : State} {lo n : Nat} {ws : List CtrlBits}
    (h : hasProgram lo n (fun _ => true) ws = true) (hb : s.atXrefBoundary = true) (hlo : lo ≤ s.pollInput.regI.toNat)
    (hhi : s.pollInput.regI.toNat < lo + n) (hlen : ws.length < 16) (hu : runWords ws s.pollInput = u) :
    runToBoundary 16 s = .next (u.finish (ws.length + 1)) :=
  run_program h hb hlo hhi rfl hlen hu

theorem fetchOpcode_pollInput (s : State) : fetchOpcode s.pollInput = fetchOpcode s := by
  simp [fetchOpcode]

/-! ### Halves and operands -/

theorem putHalf_low_high (pair : Addr) (hi lo : Byte) : putHalf .d (putHalf .reg pair lo) hi = joinBytes hi lo := by
  simp [putHalf]

theorem putHalf_high_low (pair : Addr) (hi lo : Byte) : putHalf .reg (putHalf .d pair hi) lo = joinBytes hi lo := by
  simp [putHalf]

theorem add_one_add_one (a : Addr) : a + 1 + 1 = a + 2 := BitVec.add_assoc a 1 1

/-- The second slot field of an opcode names the register of its number (R81). -/
theorem slotB_eq {s : State} (k : Slot) (h : s.regI.toNat / 4 % 4 = k.code.toNat) : s.slotB = k := by
  have hcode : s.slotB.code = k.code := BitVec.eq_of_toNat_eq ((opcodeSlotB_code s.regI).trans h)
  rw [← Slot.ofCode_code s.slotB, hcode, Slot.ofCode_code]

/-! ### Opcodes 0x00 to 0x0F -/

/-- The opcodes of no block have the no-op word in their first step (R208, R260). -/
theorem program_noop : hasProgram 0x00 1 (fun _ => true) [] = true ∧ hasProgram 0x02 2 (fun _ => true) [] = true ∧
    hasProgram 0x77 1 (fun _ => true) [] = true ∧ hasProgram 0xAC 4 (fun _ => true) [] = true ∧
    hasProgram 0xC0 64 (fun _ => true) [] = true := by decide

theorem program_outR : hasProgram 0x04 4 (fun _ => true) [0x0020#16] = true := by decide
theorem program_inR : hasProgram 0x08 4 (fun _ => true) [0x0002#16] = true := by decide
theorem program_movi : hasProgram 0x0C 4 (fun _ => true) [0x0004#16, 0x0048#16] = true := by decide

theorem words_movi (p : State) :
    runWords [0x0004#16, 0x0048#16] p = (p.setSlot p.slotA (p.memRead p.pc)).skip 1 := rfl

/-- `HLT` has no fetch: its one word clears `cycle` (R223). -/
theorem run_hlt {s : State} (hb : s.atXrefBoundary = true) (hop : s.pollInput.regI.toNat = 0x01) :
    runToBoundary 16 s = exec .hlt s.pollInput := by
  obtain ⟨hcycle, hx⟩ := s.atXrefBoundary_iff.mp hb
  have hwords : ∀ f ∈ flagCopies, xrefWord 0x01 0 f = 0x0070 := by decide
  have hword : s.controlWord = 0x0070 := by
    rw [State.pollInput_regI] at hop
    rw [State.controlWord_xref hx, hop, hcycle]
    exact hwords s.flags (flags_mem _)
  rw [runToBoundary_succ, hword]
  exact if_pos rfl

/-- The statements about microprograms, row by row of the opcode map: what holds of the row of each range of opcodes holds
of the instruction in `I`. -/
theorem run_fetchOpcode {s : State} (h : runToBoundary 16 s =
    exec (decodeOpcode s.pollInput.regI (s.pollInput.memRead s.pollInput.pc)
      (s.pollInput.memRead (s.pollInput.pc + 1))) s.pollInput) :
    runToBoundary 16 s = exec (fetchOpcode s) s.pollInput := by
  rw [h, ← fetchOpcode_pollInput, fetchOpcode]

/-- Settles O55: each of the opcodes from 0x00 to 0x0F is run by its words. -/
theorem xrefBasicMicroprograms : Obligations.XrefBasicMicroprograms := by
  unfold Obligations.XrefBasicMicroprograms
  intro s hb hop
  obtain ⟨hnop, hunassigned, -⟩ := program_noop
  rw [← s.pollInput_regI] at hop
  apply run_fetchOpcode
  simp only [decodeOpcode]
  repeat' refine iteInduction (motive := fun i => runToBoundary 16 s = exec i s.pollInput) (fun _ => ?_) (fun _ => ?_)
  · exact run_program_always hnop hb (by omega) (by omega) (by decide) rfl -- NOP
  · exact run_hlt hb ‹_›
  · exact run_program_always hunassigned hb (by omega) (by omega) (by decide) rfl
  · exact run_program_always program_outR hb (by omega) (by omega) (by decide) rfl
  · exact run_program_always program_inR hb (by omega) (by omega) (by decide) rfl
  · exact run_program_always program_movi hb (by omega) (by omega) (by decide) (words_movi _)
  all_goals omega

/-! ### The ALU opcodes -/

theorem program_add : hasProgram 0x10 16 (fun _ => true) [0x2410#16, 0x0003#16] = true := by decide
theorem program_sub : hasProgram 0x20 16 (fun _ => true) [0x9810#16, 0x0003#16] = true := by decide
theorem program_and : hasProgram 0x40 16 (fun _ => true) [0x6C10#16, 0x0003#16] = true := by decide
theorem program_or : hasProgram 0x50 16 (fun _ => true) [0x7810#16, 0x0003#16] = true := by decide
theorem program_xor : hasProgram 0x60 16 (fun _ => true) [0x5810#16, 0x0003#16] = true := by decide
theorem program_inc : hasProgram 0x78 4 (fun _ => true) [0x8010#16, 0x0003#16] = true := by decide
theorem program_dec : hasProgram 0x7C 4 (fun _ => true) [0x3C10#16, 0x0003#16] = true := by decide
theorem program_mov : hasProgram 0x80 16 (fun _ => true) [0x6810#16, 0x0003#16] = true := by decide
theorem program_addi :
    hasProgram 0x30 4 (fun _ => true) [0x000C#16, 0x0048#16, 0x2490#16, 0x0003#16] = true := by decide
theorem program_subi :
    hasProgram 0x34 4 (fun _ => true) [0x000C#16, 0x0048#16, 0x9890#16, 0x0003#16] = true := by decide
/-- Without and with the carry, which the ALU word changes for the steps behind it (R234, R330). -/
theorem program_adci :
    hasProgram 0x38 4 (fun f => !f.1) [0x000C#16, 0x0048#16, 0x2490#16, 0x0003#16] = true ∧
    hasProgram 0x38 4 (fun f => f.1) [0x000C#16, 0x0048#16, 0xA490#16, 0x0003#16] = true := by decide
theorem program_cmpi : hasProgram 0x3C 4 (fun _ => true) [0x000C#16, 0x0048#16, 0x9890#16] = true := by decide

/-- An ALU word on the first register, then `T` to that register (R227). -/
theorem sinkReg_sinkAlu (alu : AluFields) (b : Byte) (p : State) :
    sinkReg (sinkAlu alu (p.slot p.slotA) b p).regT (sinkAlu alu (p.slot p.slotA) b p) =
      aluToSlot p.bank alu p.slotA b p := by
  obtain ⟨hT, -⟩ := p.latchAlu_spec p.bank (alu8 (p.slot p.slotA) b alu)
  have hk : (p.latchAlu p.bank (alu8 (p.slot p.slotA) b alu)).slotA = p.slotA :=
    congrArg opcodeSlotA (State.latchAlu_regI p _ _)
  simp only [sinkReg, sinkAlu, aluToSlot, hT, hk]

theorem bank_of_lt {s : State} (h : s.regI.toNat < 0x80) : s.bank = false := by
  rw [bank_eq]
  exact decide_eq_false (by omega)

theorem bank_of_le {s : State} (h : 0x80 ≤ s.regI.toNat) : s.bank = true := by
  rw [bank_eq]
  exact decide_eq_true (by omega)

/-- A register instruction of the ALU: one word of the ALU in the bank of the opcode, then `T` to the register. -/
theorem words_register {alu : AluFields} {bank : Bool} {k : Slot} {w : CtrlBits} {p : State}
    (hw : runWord w p = sinkAlu alu (p.slot p.slotA) (p.slot p.slotB) p) (hbank : p.bank = bank) (hk : p.slotB = k) :
    runWords [w, 0x0003#16] p = aluToSlot bank alu p.slotA (p.slot k) p := by
  rw [← hbank, ← hk, ← sinkReg_sinkAlu, ← hw]
  rfl

/-- An immediate instruction of the ALU: the operand byte to `D`, then the ALU on it. -/
theorem words_immediate {alu : AluFields} {w : CtrlBits} {p : State}
    (hw : ∀ u, runWord w u = sinkAlu alu (u.slot u.slotA) u.regD u) (hbank : p.bank = false) :
    runWords [0x000C#16, 0x0048#16, w, 0x0003#16] p =
      aluToSlot false alu p.slotA (p.memRead p.pc) (takeImm (p.memRead p.pc) p) := by
  have hu : (takeImm (p.memRead p.pc) p).bank = false := hbank
  have halu := sinkReg_sinkAlu alu (p.memRead p.pc) (takeImm (p.memRead p.pc) p)
  rw [hu] at halu
  refine Eq.trans ?_ halu
  simp only [runWords, List.foldl_cons, List.foldl_nil, hw]
  rfl

/-- `CMPI` ends with the ALU word: the result goes to `T` only (R235). -/
theorem words_cmpi {p : State} (hbank : p.bank = false) :
    runWords [0x000C#16, 0x0048#16, 0x9890#16] p =
      (takeImm (p.memRead p.pc) p).latchAlu false (alu8 (p.slot p.slotA) (p.memRead p.pc) ⟨6, .arith, true⟩) := by
  rw [← hbank]
  rfl

theorem flags_of_lt {s : State} (h : s.pollInput.regI.toNat < 0x80) : s.flags = (s.pollInput.c0, s.pollInput.z0) := by
  rw [State.pollInput_regI] at h
  simp [State.flags, bank_of_lt h, State.carryOf, State.zeroOf]

/-- `ADCI` has one program for each value of the carry at its beginning (R234). -/
theorem run_adci {s : State} (hb : s.atXrefBoundary = true) (hlo : 0x38 ≤ s.pollInput.regI.toNat)
    (hhi : s.pollInput.regI.toNat < 0x38 + 4) :
    runToBoundary 16 s =
      exec (.adci s.pollInput.slotA (s.pollInput.memRead s.pollInput.pc)) s.pollInput := by
  obtain ⟨hclear, hset⟩ := program_adci
  have hbank : s.pollInput.bank = false := bank_of_lt (by omega)
  have hflags := flags_of_lt (s := s) (by omega)
  have hexec : exec (.adci s.pollInput.slotA (s.pollInput.memRead s.pollInput.pc)) s.pollInput =
      execAdci s.pollInput.slotA (s.pollInput.memRead s.pollInput.pc) s.pollInput := rfl
  rw [hexec, execAdci]
  cases hc : s.pollInput.c0
  · exact run_program hclear hb hlo hhi (by rw [hflags, hc]; rfl) (by decide) (words_immediate runWord_2490 hbank)
  · exact run_program hset hb hlo hhi (by rw [hflags, hc]) (by decide) (words_immediate runWord_A490 hbank)

/-- Settles O56: each opcode of the ALU is run by its words. -/
theorem xrefAluMicroprograms : Obligations.XrefAluMicroprograms := by
  unfold Obligations.XrefAluMicroprograms
  intro s hb hop
  rw [← s.pollInput_regI] at hop
  have hlow : s.pollInput.regI.toNat < 0x80 → s.pollInput.bank = false := bank_of_lt
  apply run_fetchOpcode
  simp only [decodeOpcode]
  repeat' refine iteInduction (motive := fun i => runToBoundary 16 s = exec i s.pollInput) (fun _ => ?_) (fun _ => ?_)
  any_goals omega
  · exact run_program_always program_add hb (by omega) (by omega) (by decide)
      (words_register (runWord_2410 _) (hlow (by omega)) rfl)
  · exact run_program_always program_sub hb (by omega) (by omega) (by decide)
      (words_register (runWord_9810 _) (hlow (by omega)) rfl)
  · exact run_program_always program_addi hb (by omega) (by omega) (by decide)
      (words_immediate runWord_2490 (hlow (by omega)))
  · exact run_program_always program_subi hb (by omega) (by omega) (by decide)
      (words_immediate runWord_9890 (hlow (by omega)))
  · exact run_adci hb (by omega) (by omega)
  · exact run_program_always program_cmpi hb (by omega) (by omega) (by decide) (words_cmpi (hlow (by omega)))
  · exact run_program_always program_and hb (by omega) (by omega) (by decide)
      (words_register (runWord_6C10 _) (hlow (by omega)) rfl)
  · exact run_program_always program_or hb (by omega) (by omega) (by decide)
      (words_register (runWord_7810 _) (hlow (by omega)) rfl)
  · exact run_program_always program_xor hb (by omega) (by omega) (by decide)
      (words_register (runWord_5810 _) (hlow (by omega)) rfl)
  · exact run_program_always program_inc hb (by omega) (by omega) (by decide)
      (words_register (runWord_8010 _) (hlow (by omega))
        (slotB_eq .X (by simp only [Slot.code, BitVec.reduceToNat]; omega)))
  · exact run_program_always program_dec hb (by omega) (by omega) (by decide)
      (words_register (runWord_3C10 _) (hlow (by omega))
        (slotB_eq .Y (by simp only [Slot.code, BitVec.reduceToNat]; omega)))
  · exact run_program_always program_mov hb (by omega) (by omega) (by decide)
      (words_register (runWord_6810 _) (bank_of_le (by omega)) rfl)

end Sys2Proof.Machine
end

section
set_option Elab.async false

namespace Sys2Proof.Machine

/-! ### The opcodes that transfer control -/

theorem program_jmp :
    hasProgram 0x70 1 (fun _ => true) [0x000C#16, 0x0048#16, 0x00AC#16, 0x0029#16] = true := by decide
/-- The conditional jumps taken: each on its flag (R237 to R240). -/
theorem program_taken :
    hasProgram 0x71 1 (fun f => f.1) [0x000C#16, 0x0048#16, 0x00AC#16, 0x0029#16] = true ∧
    hasProgram 0x72 1 (fun f => !f.1) [0x000C#16, 0x0048#16, 0x00AC#16, 0x0029#16] = true ∧
    hasProgram 0x73 1 (fun f => f.2) [0x000C#16, 0x0048#16, 0x00AC#16, 0x0029#16] = true ∧
    hasProgram 0x74 1 (fun f => !f.2) [0x000C#16, 0x0048#16, 0x00AC#16, 0x0029#16] = true := by decide
/-- The conditional jumps not taken: the operand is skipped. -/
theorem program_notTaken :
    hasProgram 0x71 1 (fun f => !f.1) [0x0048#16, 0x0048#16] = true ∧
    hasProgram 0x72 1 (fun f => f.1) [0x0048#16, 0x0048#16] = true ∧
    hasProgram 0x73 1 (fun f => !f.2) [0x0048#16, 0x0048#16] = true ∧
    hasProgram 0x74 1 (fun f => f.2) [0x0048#16, 0x0048#16] = true := by decide
theorem program_call : hasProgram 0x75 1 (fun _ => true)
    [0x000C#16, 0x0048#16, 0x0058#16, 0x029D#16, 0x0058#16, 0x021D#16, 0x00AC#16, 0x0029#16] = true := by decide
theorem program_ret : hasProgram 0x76 1 (fun _ => true)
    [0x020C#16, 0x0050#16, 0x02AC#16, 0x0050#16, 0x0029#16, 0x0048#16] = true := by decide

/-- The address operand of an instruction: the bytes at `PC`, the low one first (R82). -/
def State.operand (p : State) : Addr := joinBytes (p.memRead (p.pc + 1)) (p.memRead p.pc)

theorem words_jump (p : State) :
    runWords [0x000C#16, 0x0048#16, 0x00AC#16, 0x0029#16] p = { p with regD := loByte p.operand, pc := p.operand } := by
  have hpc : putHalf .reg (putHalf .d (p.pc + 1) (p.memRead (p.pc + 1))) (p.memRead p.pc) = p.operand :=
    putHalf_high_low _ _ _
  have hd : loByte p.operand = p.memRead p.pc := loByte_joinBytes _ _
  rw [hd, ← hpc]
  rfl

theorem words_skip (p : State) : runWords [0x0048#16, 0x0048#16] p = p.skip 2 :=
  congrArg (fun a => ({ p with pc := a } : State)) (add_one_add_one p.pc)

/-- The words that write `PC` at the end of a transfer: the high byte from the operand, the low byte from `D`. -/
theorem words_transfer (u : State) :
    runWords [0x00AC#16, 0x0029#16] u = { u with pc := joinBytes (u.memRead u.pc) u.regD } :=
  congrArg (fun a => ({ u with pc := a } : State)) (putHalf_high_low u.pc (u.memRead u.pc) u.regD)

theorem words_pushHigh (u : State) : runWords [0x0058#16, 0x029D#16] u = pushByte (hiByte u.pc) u := rfl

theorem words_pushLow (u : State) : runWords [0x0058#16, 0x021D#16] u = pushByte (loByte u.pc) u := rfl

theorem words_takeImm (u : State) : runWords [0x000C#16, 0x0048#16] u = takeImm (u.memRead u.pc) u := rfl

theorem runWords_append (as bs : List CtrlBits) (u : State) : runWords (as ++ bs) u = runWords bs (runWords as u) :=
  List.foldl_append

@[simp] theorem pushByte_pc (v : Byte) (u : State) : (pushByte v u).pc = u.pc := by
  simp [pushByte, sinkSpDec]

@[simp] theorem pushByte_regD (v : Byte) (u : State) : (pushByte v u).regD = u.regD := by
  simp [pushByte, sinkSpDec]

theorem words_call (p : State) :
    runWords [0x000C#16, 0x0048#16, 0x0058#16, 0x029D#16, 0x0058#16, 0x021D#16, 0x00AC#16, 0x0029#16] p =
      let s1 := State.skip { p with regD := loByte p.operand } 1
      let s2 := pushByte (loByte s1.pc) (pushByte (hiByte s1.pc) s1)
      { s2 with pc := joinBytes (s2.memRead s2.pc) (loByte p.operand) } := by
  have hd : loByte p.operand = p.memRead p.pc := loByte_joinBytes _ _
  have himm : (takeImm (p.memRead p.pc) p).regD = p.memRead p.pc := rfl
  change runWords ([0x000C#16, 0x0048#16] ++ [0x0058#16, 0x029D#16] ++ [0x0058#16, 0x021D#16] ++
    [0x00AC#16, 0x0029#16]) p = _
  simp only [runWords_append, words_takeImm, words_pushHigh, words_pushLow, words_transfer, pushByte_pc,
    pushByte_regD, himm, hd]
  rfl

theorem words_ret (p : State) :
    runWords [0x020C#16, 0x0050#16, 0x02AC#16, 0x0050#16, 0x0029#16, 0x0048#16] p =
      let s1 := sinkSpInc { p with regD := p.memRead p.sp }
      { sinkSpInc s1 with pc := joinBytes (s1.memRead s1.sp) s1.regD + 1 } := by
  have hpc : putHalf .reg (putHalf .d p.pc (p.memRead (p.spFix (p.sp + 1)))) (p.memRead p.sp) =
      joinBytes (p.memRead (p.spFix (p.sp + 1))) (p.memRead p.sp) := putHalf_high_low _ _ _
  calc runWords [0x020C#16, 0x0050#16, 0x02AC#16, 0x0050#16, 0x0029#16, 0x0048#16] p
    _ = { sinkSpInc (sinkSpInc { p with regD := p.memRead p.sp }) with
          pc := putHalf .reg (putHalf .d p.pc (p.memRead (p.spFix (p.sp + 1)))) (p.memRead p.sp) + 1 } := rfl
    _ = _ := by rw [hpc]; rfl

/-- An opcode with one program where a condition on the flags holds and another one where it does not. -/
theorem run_either {s t u : State} {op : Nat} {cond : Bool × Bool → Bool} {ws vs : List CtrlBits}
    (hws : hasProgram op 1 cond ws = true) (hvs : hasProgram op 1 (fun f => !cond f) vs = true)
    (hb : s.atXrefBoundary = true) (hop : s.pollInput.regI.toNat = op) (hlen : ws.length < 16 ∧ vs.length < 16)
    (ht : runWords ws s.pollInput = t) (hu : runWords vs s.pollInput = u) :
    runToBoundary 16 s = .next (if cond s.flags then t.finish (ws.length + 1) else u.finish (vs.length + 1)) := by
  split
  · exact run_program hws hb (by omega) (by omega) ‹_› hlen.1 ht
  · next h =>
    exact run_program hvs hb (by omega) (by omega) (by simpa using h) hlen.2 hu

/-- Settles O57: each of the opcodes from 0x70 to 0x77 is run by its words. -/
theorem xrefFlowMicroprograms : Obligations.XrefFlowMicroprograms := by
  unfold Obligations.XrefFlowMicroprograms
  intro s hb hlo hhi
  obtain ⟨-, -, hunassigned, -⟩ := program_noop
  obtain ⟨hjc, hjnc, hjz, hjnz⟩ := program_taken
  obtain ⟨hjc', hjnc', hjz', hjnz'⟩ := program_notTaken
  rw [← s.pollInput_regI] at hlo hhi
  have hflags := flags_of_lt (s := s) (by omega)
  apply run_fetchOpcode
  simp only [decodeOpcode]
  repeat' refine iteInduction (motive := fun i => runToBoundary 16 s = exec i s.pollInput) (fun _ => ?_) (fun _ => ?_)
  any_goals omega
  · exact run_program_always program_jmp hb (by omega) (by omega) (by decide) (words_jump _)
  · rw [run_either hjc hjc' hb ‹_› (by decide) (words_jump _) (words_skip _), hflags]; rfl
  · rw [run_either hjnc' hjnc hb ‹_› (by decide) (words_skip _) (words_jump _), hflags]; rfl
  · rw [run_either hjz hjz' hb ‹_› (by decide) (words_jump _) (words_skip _), hflags]; rfl
  · rw [run_either hjnz' hjnz hb ‹_› (by decide) (words_skip _) (words_jump _), hflags]; rfl
  · rw [run_program_always program_call hb (by omega) (by omega) (by decide) (words_call _)]; rfl
  · rw [run_program_always program_ret hb (by omega) (by omega) (by decide) (words_ret _)]; rfl
  · exact run_program_always hunassigned hb (by omega) (by omega) (by decide) rfl

end Sys2Proof.Machine
end

section
set_option Elab.async false

namespace Sys2Proof.Machine

/-! ### The opcodes of memory, stack and base pointer -/

theorem program_ld :
    hasProgram 0x90 4 (fun _ => true) [0x0044#16, 0x0048#16, 0x00C4#16, 0x0048#16, 0x0104#16] = true := by decide
theorem program_st :
    hasProgram 0x94 4 (fun _ => true) [0x0044#16, 0x0048#16, 0x00C4#16, 0x0048#16, 0x0118#16] = true := by decide
theorem program_push : hasProgram 0x98 4 (fun _ => true) [0x0058#16, 0x0218#16] = true := by decide
theorem program_pop : hasProgram 0x9C 4 (fun _ => true) [0x0204#16, 0x0050#16] = true := by decide
theorem program_movbp :
    hasProgram 0xA0 1 (fun _ => true) [0x003C#16, 0x0048#16, 0x00BC#16, 0x0048#16] = true := by decide
theorem program_movsp :
    hasProgram 0xA1 1 (fun _ => true) [0x0034#16, 0x0048#16, 0x00B4#16, 0x0048#16] = true := by decide
theorem program_incbp : hasProgram 0xA2 1 (fun _ => true) [0x0060#16] = true := by decide
theorem program_decbp : hasProgram 0xA3 1 (fun _ => true) [0x0068#16] = true := by decide
theorem program_ldbp : hasProgram 0xA4 4 (fun _ => true) [0x0304#16] = true := by decide
theorem program_stbp : hasProgram 0xA8 4 (fun _ => true) [0x0318#16] = true := by decide
theorem program_movbpl : hasProgram 0xB0 4 (fun _ => true) [0x0007#16] = true := by decide
theorem program_movbph : hasProgram 0xB4 4 (fun _ => true) [0x0087#16] = true := by decide
theorem program_movspl : hasProgram 0xB8 4 (fun _ => true) [0x0006#16] = true := by decide
theorem program_movsph : hasProgram 0xBC 4 (fun _ => true) [0x0086#16] = true := by decide

/-- The address operand into `MA`, `PC` behind it. -/
theorem words_address (p : State) :
    runWords [0x0044#16, 0x0048#16, 0x00C4#16, 0x0048#16] p = State.skip { p with ma := p.operand } 2 := by
  have hma : putHalf .d (putHalf .reg p.ma (p.memRead p.pc)) (p.memRead (p.pc + 1)) = p.operand := putHalf_low_high _ _ _
  simp only [State.skip, ← hma, ← add_one_add_one]
  rfl

theorem State.setSlot_skip (s : State) (k : Slot) (v : Byte) (n : Addr) :
    (s.skip n).setSlot k v = (s.setSlot k v).skip n := by
  cases k <;> rfl

theorem State.memWrite_skip (s : State) (addr : Addr) (v : Byte) (n : Addr) :
    (s.skip n).memWrite addr v = (s.memWrite addr v).skip n := by
  rw [memWrite, memWrite, apply_ite (State.skip · n)]
  rfl

theorem words_ld (p : State) :
    runWords [0x0044#16, 0x0048#16, 0x00C4#16, 0x0048#16, 0x0104#16] p =
      (State.setSlot { p with ma := p.operand } p.slotA (p.memRead p.operand)).skip 2 := by
  rw [← State.setSlot_skip]
  exact congrArg (runWord 0x0104#16) (words_address p)

theorem words_st (p : State) :
    runWords [0x0044#16, 0x0048#16, 0x00C4#16, 0x0048#16, 0x0118#16] p =
      (State.memWrite { p with ma := p.operand } p.operand (p.slot p.slotA)).skip 2 := by
  rw [← State.memWrite_skip]
  exact congrArg (runWord 0x0118#16) (words_address p)

theorem words_movbp (p : State) :
    runWords [0x003C#16, 0x0048#16, 0x00BC#16, 0x0048#16] p = State.skip { p with bp := p.operand } 2 := by
  have hbp : putHalf .d (putHalf .reg p.bp (p.memRead p.pc)) (p.memRead (p.pc + 1)) = p.operand := putHalf_low_high _ _ _
  simp only [State.skip, ← hbp, ← add_one_add_one]
  rfl

/-- The base ORed in after each half is the base ORed in once: the high half is written last (R251). -/
theorem spFix_putHalf_spFix (p : State) (pair : Addr) (hi lo : Byte) :
    p.spFix (putHalf .d (p.spFix (putHalf .reg pair lo)) hi) = p.spFix (joinBytes hi lo) := by
  have hlow : loByte (p.spFix (putHalf .reg pair lo)) = lo := by
    apply BitVec.eq_of_getLsbD_eq
    intro i hi
    simp [State.spFix, putHalf, loByte, getLsbD_joinBytes, hi]
  exact congrArg (fun l => p.spFix (joinBytes hi l)) hlow

theorem words_movsp (p : State) :
    runWords [0x0034#16, 0x0048#16, 0x00B4#16, 0x0048#16] p = State.skip { p with sp := p.spFix p.operand } 2 := by
  have hsp := spFix_putHalf_spFix p p.sp (p.memRead (p.pc + 1)) (p.memRead p.pc)
  rw [State.operand, ← hsp, State.skip, ← add_one_add_one]
  rfl

/-- The program of one word that loads a register. -/
theorem words_reg {w : CtrlBits} {v : Byte} {p : State} (hw : runWord w p = sinkReg v p) :
    runWords [w] p = p.setSlot p.slotA v := hw

/-- Settles O58: each of the opcodes from 0x90 on is run by its words. -/
theorem xrefMemoryMicroprograms : Obligations.XrefMemoryMicroprograms := by
  unfold Obligations.XrefMemoryMicroprograms
  intro s hb hlo
  obtain ⟨-, -, -, hunassignedAC, hunassignedC0⟩ := program_noop
  rw [← s.pollInput_regI] at hlo
  have hhi : s.pollInput.regI.toNat < 0xC0 + 64 := s.pollInput.regI.isLt
  apply run_fetchOpcode
  simp only [decodeOpcode]
  repeat' refine iteInduction (motive := fun i => runToBoundary 16 s = exec i s.pollInput) (fun _ => ?_) (fun _ => ?_)
  any_goals omega
  · exact run_program_always program_ld hb (by omega) (by omega) (by decide) (words_ld _)
  · exact run_program_always program_st hb (by omega) (by omega) (by decide) (words_st _)
  · exact run_program_always program_push hb (by omega) (by omega) (by decide) rfl
  · exact run_program_always program_pop hb (by omega) (by omega) (by decide) rfl
  · exact run_program_always program_movbp hb (by omega) (by omega) (by decide) (words_movbp _)
  · exact run_program_always program_movsp hb (by omega) (by omega) (by decide) (words_movsp _)
  · exact run_program_always program_incbp hb (by omega) (by omega) (by decide) rfl
  · exact run_program_always program_decbp hb (by omega) (by omega) (by decide) rfl
  · exact run_program_always program_ldbp hb (by omega) (by omega) (by decide) (words_reg (runWord_0304 _))
  · exact run_program_always program_stbp hb (by omega) (by omega) (by decide) rfl
  · exact run_program_always hunassignedAC hb (by omega) (by omega) (by decide) rfl
  · exact run_program_always program_movbpl hb (by omega) (by omega) (by decide) (words_reg (runWord_0007 _))
  · exact run_program_always program_movbph hb (by omega) (by omega) (by decide) (words_reg (runWord_0087 _))
  · exact run_program_always program_movspl hb (by omega) (by omega) (by decide) (words_reg (runWord_0006 _))
  · exact run_program_always program_movsph hb (by omega) (by omega) (by decide) (words_reg (runWord_0086 _))
  · exact run_program_always hunassignedC0 hb (by omega) hhi (by decide) rfl

end Sys2Proof.Machine
end

section
set_option Elab.async false

namespace Sys2Proof.Machine

/-! ### What no micro-cycle reads -/

/-- The collaborator writes `IN`, from what is due at `tick` (R307). -/
theorem State.pollInput_eq (s : State) : s.pollInput =
    { s with regIN := (s.cfg.inputs.find? fun e => decide (e.tick = s.tick)).elim s.regIN (applyInput · s.regIN) } := by
  unfold State.pollInput
  cases s.cfg.inputs.find? fun e => decide (e.tick = s.tick) <;> rfl

/-- `s` with other values in the fields that no micro-cycle reads: `OUT`, the trace and the host's mode. -/
def State.unread (s : State) (v : Byte) (earlier : List (Nat × Byte)) (m : StepMode) : State :=
  { s with regOUT := v, trace := earlier, mode := m }

theorem State.pollInput_unread (s : State) (v : Byte) (earlier : List (Nat × Byte)) (m : StepMode) :
    (s.unread v earlier m).pollInput = s.pollInput.unread v earlier m := by
  rw [State.pollInput_eq, State.pollInput_eq]
  rfl

theorem runSink_unread (w : BusAW) (alu : AluFields) (bus : Buses) (s : State) (v : Byte) (earlier : List (Nat × Byte))
    (m : StepMode) : runSink w alu bus (s.unread v earlier m) =
      (runSink w alu bus s).unread (if w = .out then bus.a else v)
        (earlier ++ if w = .out then [(s.tick + 1, bus.a)] else []) m := by
  by_cases hw : w = .out
  · subst hw
    rfl
  · rw [if_neg hw, if_neg hw, List.append_nil]
    cases w with
    | reg =>
      have hk : (s.unread v earlier m).slotA = s.slotA := rfl
      simp only [runSink, sinkReg, hk]
      cases s.slotA <;> rfl
    | alu =>
      have hk : (s.unread v earlier m).bank = s.bank := rfl
      simp only [runSink, sinkAlu, hk]
      cases s.bank <;> rfl
    | mem =>
      simp only [runSink, sinkMem, State.memWrite, apply_ite (State.unread · v earlier m)]
      rfl
    | out => exact absurd rfl hw
    | d | pc | sp | bp | ma | pcInc | spInc | spDec | bpInc | bpDec | rst | adv => rfl

/-- The events of a micro-cycle (R134, R306). -/
def controlEvents (cw : ControlWord) (s : State) : List (Nat × Byte) :=
  if cw.busAW = .out then [(s.tick + 1, (drive cw.busAR cw.busB cw.busC s).a)] else []

theorem runControl_trace (cw : ControlWord) (s : State) : (runControl cw s).trace = s.trace ++ controlEvents cw s :=
  runSink_trace cw.busAW cw.alu (drive cw.busAR cw.busB cw.busC s) s

theorem runControl_regOUT (cw : ControlWord) (s : State) :
    (runControl cw s).regOUT = if cw.busAW = .out then (drive cw.busAR cw.busB cw.busC s).a else s.regOUT :=
  runSink_regOUT cw.busAW cw.alu (drive cw.busAR cw.busB cw.busC s) s

/-- Whatever the unread fields hold, a micro-cycle is the same and puts out the same. -/
theorem runControl_unread (cw : ControlWord) (s : State) (v : Byte) (earlier : List (Nat × Byte)) (m : StepMode) :
    runControl cw (s.unread v earlier m) =
      (runControl cw s).unread (if cw.busAW = .out then (drive cw.busAR cw.busB cw.busC s).a else v)
        (earlier ++ controlEvents cw s) m := by
  have hdrive : drive cw.busAR cw.busB cw.busC (s.unread v earlier m) = drive cw.busAR cw.busB cw.busC s :=
    drive_overlay (ar := cw.busAR) cw.busB cw.busC s { s with regOUT := v, trace := earlier, mode := m } (.inr rfl)
  rw [runControl_eq, hdrive, runSink_unread, runControl_eq]
  rfl

/-- Opcodes run as their microprograms do, so that in instruction mode a step is always a run to the boundary (D24). -/
theorem instructionStep_eq (s : State) : instructionStep s = runToBoundary 16 s := by
  unfold instructionStep
  split
  · next hb =>
    have hI := s.regI.isLt
    by_cases h0 : s.regI.toNat ≤ 0x0F
    · exact (xrefBasicMicroprograms s hb h0).symm
    · by_cases h1 : 0x70 ≤ s.regI.toNat ∧ s.regI.toNat ≤ 0x77
      · exact (xrefFlowMicroprograms s hb h1.1 h1.2).symm
      · by_cases h2 : 0x90 ≤ s.regI.toNat
        · exact (xrefMemoryMicroprograms s hb h2).symm
        · exact (xrefAluMicroprograms s hb (by omega)).symm
  · rfl

theorem tickStep_unread {s t : State} (v : Byte) (earlier : List (Nat × Byte)) (m : StepMode)
    (h : tickStep s = .next t) :
    ∃ v' events, t.trace = s.trace ++ events ∧
      tickStep (s.unread v earlier m) = .next (t.unread v' (earlier ++ events) m) := by
  rw [tickStep_eq] at h
  obtain rfl : runControl (ControlWord.unpack s.controlWord) s.pollInput = t := by simpa using h
  have htrace := runControl_trace (ControlWord.unpack s.controlWord) s.pollInput
  rw [State.pollInput_trace] at htrace
  have hstep := runControl_unread (ControlWord.unpack s.controlWord) s.pollInput v earlier m
  rw [← State.pollInput_unread] at hstep
  exact ⟨_, _, htrace, (tickStep_eq _).trans (congrArg _ hstep)⟩

theorem runToBoundary_unread {n : Nat} {s t : State} (v : Byte) (earlier : List (Nat × Byte)) (m : StepMode)
    (h : runToBoundary n s = .next t) :
    ∃ v' events, t.trace = s.trace ++ events ∧
      runToBoundary n (s.unread v earlier m) = .next (t.unread v' (earlier ++ events) m) := by
  induction n generalizing s v earlier with
  | zero =>
    obtain rfl : s = t := by simpa [runToBoundary] using h
    exact ⟨v, [], (List.append_nil _).symm, by rw [List.append_nil]; rfl⟩
  | succ n ih =>
    obtain ⟨u, hu⟩ : ∃ u, tickStep s = .next u := ⟨_, tickStep_eq s⟩
    obtain ⟨v', events, htrace, hstep⟩ := tickStep_unread v earlier m hu
    have hcycle : (u.unread v' (earlier ++ events) m).cycle = u.cycle := rfl
    simp only [runToBoundary, hu] at h
    simp only [runToBoundary, hstep, hcycle]
    split at h
    · next h0 =>
      obtain rfl : u = t := by simpa using h
      exact ⟨v', events, htrace, if_pos h0⟩
    · next h0 =>
      obtain ⟨v'', later, htrace', hrun⟩ := ih v' (earlier ++ events) h
      refine ⟨v'', events ++ later, by rw [htrace', htrace, List.append_assoc], ?_⟩
      rw [if_neg h0, hrun, List.append_assoc]

/-- Settles O31: no micro-cycle reads what `OUT` and the trace hold, and either mode runs micro-cycles. -/
theorem outputIsWriteOnly : Obligations.OutputIsWriteOnly := by
  unfold Obligations.OutputIsWriteOnly
  intro s t v earlier h
  have hs : ({ s with regOUT := v, trace := earlier } : State) = s.unread v earlier s.mode := rfl
  have hmode : (s.unread v earlier s.mode).mode = s.mode := rfl
  obtain ⟨-, htmode, -⟩ := stepKeepsParameters s t h
  have key : ∃ v' events, t.trace = s.trace ++ events ∧
      step (s.unread v earlier s.mode) = .next (t.unread v' (earlier ++ events) s.mode) := by
    rw [step] at h
    rw [step, hmode]
    cases hm : s.mode with
    | tick =>
      rw [hm] at h
      exact tickStep_unread v earlier _ h
    | instruction =>
      rw [hm] at h
      dsimp only at h ⊢
      rw [instructionStep_eq] at h ⊢
      exact runToBoundary_unread v earlier _ h
  obtain ⟨v', events, htrace, hstep⟩ := key
  refine ⟨_, hs ▸ hstep, ?_, events, htrace, rfl⟩
  rw [← htmode]
  rfl

/-! ### The boundary within sixteen micro-cycles -/

/-- The mode is the host's: a micro-cycle is the same in either. -/
theorem runControl_withMode (cw : ControlWord) (s : State) (m : StepMode) :
    runControl cw { s with mode := m } = { runControl cw s with mode := m } := by
  have h := runControl_unread cw s s.regOUT s.trace m
  rw [← runControl_regOUT, ← runControl_trace] at h
  exact h

theorem runControl_cycle (cw : ControlWord) (s : State) :
    (runControl cw s).cycle = 0 ∨ (runControl cw s).cycle = s.cycle + 1 := by
  obtain ⟨hcycle, -⟩ := runBuses_counters cw.busAW cw.alu (drive cw.busAR cw.busB cw.busC s) s
  exact hcycle.symm ▸ ite_eq_or_eq _ _ _

/-- The micro-cycle of a state, in tick mode. -/
theorem step_withMode_tick (s : State) : step { s with mode := .tick } =
    .next { runControl (ControlWord.unpack s.controlWord) s.pollInput with mode := .tick } := by
  have hpoll : ({ s with mode := .tick } : State).pollInput = { s.pollInput with mode := .tick } := by
    rw [State.pollInput_eq, State.pollInput_eq]
  rw [step_tick_eq rfl, hpoll, runControl_withMode]
  rfl

/-- The counter, with its distance to 16, bounds the way to the boundary (R34, R98). -/
theorem runToBoundary_within (m : Nat) (s : State) (h : 16 - s.cycle.toNat ≤ m) :
    ∃ (n : Nat) (t : State), 1 ≤ n ∧ n ≤ m ∧ runToBoundary m s = .next t ∧ t.cycle = 0 ∧
      core.run n { s with mode := .tick } = .next { t with mode := .tick } := by
  induction m generalizing s with
  | zero =>
    have := s.cycle.isLt
    omega
  | succ m ih =>
    have hrun := fun n => core_run_succ n _ _ (step_withMode_tick s)
    rw [runToBoundary_succ]
    dsimp only
    by_cases h0 : (runControl (ControlWord.unpack s.controlWord) s.pollInput).cycle = 0
    · exact ⟨1, _, by omega, by omega, if_pos h0, h0, hrun 0⟩
    · have hcycle := (runControl_cycle (ControlWord.unpack s.controlWord) s.pollInput).resolve_left h0
      rw [State.pollInput_cycle] at hcycle
      have hnext : (s.cycle + 1).toNat = s.cycle.toNat + 1 := by
        have hne : (s.cycle + 1).toNat ≠ 0 := fun h => h0 (hcycle.trans (BitVec.eq_of_toNat_eq h))
        have hadd : (s.cycle + 1).toNat = (s.cycle.toNat + 1) % 16 := BitVec.toNat_add s.cycle 1
        have := s.cycle.isLt
        omega
      obtain ⟨n, t, hn, hm, hto, ht, hticks⟩ := ih _ (by rw [hcycle, hnext]; omega)
      exact ⟨n + 1, t, by omega, by omega, (if_neg h0).trans hto, ht, (hrun n).trans hticks⟩

/-- Settles O16: the counter is at most 15, and each micro-cycle clears it or adds one. -/
theorem boundaryWithinSixteen : Obligations.BoundaryWithinSixteen := fun s =>
  runToBoundary_within 16 s (Nat.sub_le _ _)

end Sys2Proof.Machine
end

section
set_option Elab.async false

namespace Sys2Proof.Machine

/-! ### The collaborator's bits of `IN` -/

theorem applyInput_data (e : InputEvent) (v : Byte) : (applyInput e v).extractLsb' 0 4 = e.data := by
  have h : (applyInput e v).extractLsb' 0 4 = e.data.extractLsb' 0 4 :=
    BitVec.extractLsb'_append_eq_of_add_le (xhi := e.done ++ e.ready ++ v.extractLsb' 4 1) (xlo := e.data) (by decide)
  rw [h, BitVec.extractLsb'_eq_self]

theorem applyInput_ready (e : InputEvent) (v : Byte) : (applyInput e v).extractLsb' 5 2 = e.ready := by
  have h : (applyInput e v).extractLsb' 5 2 = (e.done ++ e.ready ++ v.extractLsb' 4 1).extractLsb' 1 2 :=
    BitVec.extractLsb'_append_eq_of_le (xlo := e.data) (by decide)
  rw [h, BitVec.extractLsb'_append_eq_of_le (by decide), BitVec.extractLsb'_append_eq_of_add_le (by decide),
    BitVec.extractLsb'_eq_self]

theorem applyInput_done (e : InputEvent) (v : Byte) : (applyInput e v).extractLsb' 7 1 = e.done := by
  have h : (applyInput e v).extractLsb' 7 1 = (e.done ++ e.ready ++ v.extractLsb' 4 1).extractLsb' 3 1 :=
    BitVec.extractLsb'_append_eq_of_le (xlo := e.data) (by decide)
  rw [h, BitVec.extractLsb'_append_eq_of_le (by decide), BitVec.extractLsb'_append_eq_of_le (by decide),
    BitVec.extractLsb'_eq_self]

/-- The first entry for the tick is the one that counts (D19). -/
theorem find_input {before later : List InputEvent} {e : InputEvent} {tick : Nat}
    (hbefore : ∀ f ∈ before, f.tick ≠ tick) (he : e.tick = tick) :
    (before ++ e :: later).find? (fun f => decide (f.tick = tick)) = some e := by
  have hnone : before.find? (fun f => decide (f.tick = tick)) = none := by simpa using hbefore
  rw [List.find?_append, hnone, Option.none_or, List.find?_cons_of_pos (by simpa using he)]

/-- Without an entry for the tick nothing changes (R307). -/
theorem State.pollInput_of_none {s : State} (h : ∀ f ∈ s.cfg.inputs, f.tick ≠ s.tick) : s.pollInput = s := by
  have hnone : s.cfg.inputs.find? (fun f => decide (f.tick = s.tick)) = none := by simpa using h
  rw [State.pollInput_eq, hnone]
  rfl

/-! ### The access matrix of a step -/

/-- A place that an assignment leaves unless `P` has changed only if `P`. -/
theorem of_ite_ne {α : Type} {P : Prop} [Decidable P] {x y z : α} (hx : x = if P then y else z) (h : x ≠ z) : P := by
  by_contra hP
  exact h (hx.trans (if_neg hP))

/-- In the matrix `PC` is changed by a sink of `PC` or by a count. -/
theorem of_ite_ite_ne {α : Type} {P Q : Prop} [Decidable P] [Decidable Q] {x y y' z : α}
    (hx : x = if P then y else if Q then y' else z) (h : x ≠ z) : P ∨ Q := by
  by_contra hPQ
  obtain ⟨hP, hQ⟩ := not_or.mp hPQ
  exact h (hx.trans ((if_neg hP).trans (if_neg hQ)))

theorem of_ite_ite_ite_ne {α : Type} {P Q R : Prop} [Decidable P] [Decidable Q] [Decidable R] {x y y' y'' z : α}
    (hx : x = if P then y else if Q then y' else if R then y'' else z) (h : x ≠ z) : P ∨ Q ∨ R := by
  by_cases hP : P
  · exact .inl hP
  · exact .inr (of_ite_ite_ne (hx.trans (if_neg hP)) h)

/-- The bits of `IN` that a micro-cycle of whatever sink keeps: all but the clock bit (R100, R147). -/
theorem runControl_input (cw : ControlWord) (s : State) {k : Nat} (hk : k < 8) (h4 : k ≠ 4) :
    (runControl cw s).regIN.getLsbD k = s.regIN.getLsbD k := by
  obtain ⟨-, -, hin⟩ : s.endsCycle (runControl cw s) (clearsCycle cw.busAW) := runBuses_endsCycle
  rw [hin k hk]
  simp [h4]

/-- Settles O29: the schedule's first entry for the tick is what is put into `IN`, and each place is, in the rule of the
micro-cycle for it, guarded by its sinks. -/
theorem accessMatrix : Obligations.AccessMatrix := by
  unfold Obligations.AccessMatrix
  refine ⟨fun s before e later hin hbefore he => ?_, fun s h => s.pollInput_of_none h, fun s t w hmode hstep hw => ?_⟩
  · have hpoll : s.pollInput = { s with regIN := applyInput e s.regIN } := by
      rw [State.pollInput_eq, hin, find_input hbefore he]
      rfl
    exact ⟨hpoll ▸ applyInput_data e s.regIN, s.pollInput_clock, hpoll ▸ applyInput_ready e s.regIN,
      hpoll ▸ applyInput_done e s.regIN, by rw [hpoll]⟩
  · rw [step_tick_eq hmode] at hstep
    obtain rfl : runControl (ControlWord.unpack s.controlWord) s.pollInput = t := by simpa using hstep
    generalize ControlWord.unpack s.controlWord = cw at hw ⊢
    subst hw
    have hinput := fun k hk h4 => runControl_input cw s.pollInput (k := k) hk h4
    obtain ⟨i, hpoll⟩ : ∃ i, s.pollInput = { s with regIN := i } := ⟨_, s.pollInput_eq⟩
    rw [hpoll] at hinput ⊢
    have hslot :=
      runSink_slot cw.busAW cw.alu (drive cw.busAR cw.busB cw.busC { s with regIN := i }) { s with regIN := i }
    have hmem : ∀ a, (runControl cw { s with regIN := i }).memRead a = _ :=
      runSink_memRead cw.busAW cw.alu (drive cw.busAR cw.busB cw.busC { s with regIN := i }) { s with regIN := i }
    obtain ⟨hcycle, htick, -⟩ :=
      runBuses_counters cw.busAW cw.alu (drive cw.busAR cw.busB cw.busC { s with regIN := i }) { s with regIN := i }
    refine ⟨fun k => of_ite_ne (hslot k), of_ite_ne (runSink_regD ..), of_ite_ne (runSink_regT ..),
      fun k => of_ite_ne (runSink_carryOf ..), fun k => of_ite_ne (runSink_zeroOf ..),
      of_ite_ne (runSink_regI ..), of_ite_ne (runSink_regOUT ..),
      fun h => by_contra fun hw => h (runBuses_silent hw), of_ite_ite_ne (runSink_pc ..),
      of_ite_ite_ite_ne (runSink_sp ..), of_ite_ite_ite_ne (runSink_bp ..), of_ite_ne (runSink_ma ..), fun a h => ?_,
      hinput, htick, hcycle⟩
    obtain ⟨hw, ha, -⟩ := of_ite_ne (hmem a) h
    exact ⟨hw, ha⟩

/-! ### The inactive flag bank -/

theorem drive_setFlags (ar : BusAR) (b : BusB) (c : BusC) (s : State) (k cf zf : Bool) :
    drive ar b c (s.setFlags k cf zf) = drive ar b c s := by
  cases k <;> rfl

/-- A sink writes the flags of the active bank or none. -/
theorem runSink_setFlags (w : BusAW) (alu : AluFields) (bus : Buses) (s : State) (cf zf : Bool) :
    runSink w alu bus (s.setFlags (!s.bank) cf zf) = (runSink w alu bus s).setFlags (!s.bank) cf zf := by
  have hI : (s.setFlags (!s.bank) cf zf).regI = s.regI := State.setFlags_regI s _ _ _
  cases w with
  | reg =>
    have hk : (s.setFlags (!s.bank) cf zf).slotA = s.slotA := congrArg opcodeSlotA hI
    simp only [runSink, sinkReg, hk]
    cases s.slotA <;> cases s.bank <;> rfl
  | alu =>
    have hk : (s.setFlags (!s.bank) cf zf).bank = s.bank := congrArg (BitVec.getLsbD · 7) hI
    simp only [runSink, sinkAlu, hk]
    cases s.bank <;> rfl
  | mem =>
    have hcfg : (s.setFlags (!s.bank) cf zf).cfg = s.cfg := State.setFlags_cfg s _ _ _
    simp only [runSink, sinkMem, State.memWrite, hcfg, apply_ite (State.setFlags · (!s.bank) cf zf)]
    cases s.bank <;> rfl
  | d | out | pc | sp | bp | ma | pcInc | spInc | spDec | bpInc | bpDec | rst | adv => cases s.bank <;> rfl

theorem State.controlWord_setFlags (s : State) (cf zf : Bool) :
    (s.setFlags (!s.bank) cf zf).controlWord = s.controlWord := by
  have hI : (s.setFlags (!s.bank) cf zf).regI = s.regI := State.setFlags_regI s _ _ _
  have hk : (s.setFlags (!s.bank) cf zf).bank = s.bank := congrArg (BitVec.getLsbD · 7) hI
  have hne : s.bank ≠ !s.bank := by simp
  rw [State.controlWord, State.romAddr, hk, State.carryOf_setFlags, State.zeroOf_setFlags, if_neg hne, if_neg hne, hI]
  simp [State.controlWord, State.romAddr]

theorem State.pollInput_setFlags (s : State) (k cf zf : Bool) :
    (s.setFlags k cf zf).pollInput = s.pollInput.setFlags k cf zf := by
  rw [State.pollInput_eq, State.pollInput_eq]
  cases k <;> rfl

/-- Settles O30: neither the address nor the buses depend on the inactive bank, and no sink writes it. -/
theorem inactiveBankIsIsolated : Obligations.InactiveBankIsIsolated := by
  unfold Obligations.InactiveBankIsIsolated
  intro s t cf zf hmode h
  have hmode' : (s.setFlags (!s.bank) cf zf).mode = .tick := (State.setFlags_mode s _ _ _).trans hmode
  have hbank : s.pollInput.bank = s.bank := by simp [State.bank]
  rw [step_tick_eq hmode] at h
  obtain rfl : runControl (ControlWord.unpack s.controlWord) s.pollInput = t := by simpa using h
  rw [step_tick_eq hmode', State.controlWord_setFlags, State.pollInput_setFlags, runControl_eq, drive_setFlags, ← hbank,
    runSink_setFlags, runControl_eq]
  cases s.pollInput.bank <;> rfl

/-! ### Memory and the invariants of a step -/

/-- Settles O32: memory below `BOOT_SIZE` is read from the image, which is a parameter. -/
theorem bootstrapRegionNeverChanges : Obligations.BootstrapRegionNeverChanges := by
  unfold Obligations.BootstrapRegionNeverChanges
  intro s t a h ha
  obtain ⟨hcfg, -⟩ := stepKeepsParameters s t h
  rw [State.memRead, State.memRead, hcfg, if_pos ha, if_pos ha]

/-- What the collaborator's action, every micro-cycle and every XREF-1 instruction keep, every step keeps. -/
theorem step_invariant {P : State → Prop} (poll : ∀ s, P s → P s.pollInput)
    (control : ∀ w alu bus s, P s → P (runBuses w alu bus s))
    (opcode : ∀ s u n, s.Writes u → P s → P (u.finish (n + 1))) {s t : State} (hs : P s)
    (h : step s = .next t) : P t := by
  refine step_rel (R := fun s t => P s → P t) (fun _ _ _ hsu hut hs => hut (hsu hs)) (fun i s t hi hs => ?_) s t h hs
  obtain ⟨w, alu, bus, hr⟩ | ⟨u, n, hu, hr⟩ := exec_cases i s.pollInput
  · obtain rfl : t = runBuses w alu bus s.pollInput := by simpa using hi.symm.trans hr
    exact control w alu bus _ (poll s hs)
  · obtain rfl : t = u.finish (n + 1) := by simpa using hi.symm.trans hr
    exact opcode _ u n hu (poll s hs)

theorem State.Writes.memoryWf {s u : State} (h : s.Writes u) (hs : s.memoryWf) : u.memoryWf := by
  induction h with
  | none | out => exact hs
  | store a v _ ih => exact State.memoryWf_memWrite ih a v
  | slot k v _ ih => exact (State.memoryWf_congr (by simp) (by simp)).mpr ih
  | alu bank r _ ih => exact (State.memoryWf_congr (by simp) (by simp)).mpr ih
  | data _ _ ih | pc _ _ ih | sp _ _ ih | bp _ _ ih | ma _ _ ih => exact ih

/-- Settles O33: memory is written by `memWrite` only. -/
theorem stepKeepsMemoryCanonical : Obligations.StepKeepsMemoryCanonical := fun s t hs h =>
  step_invariant (fun s => (State.memoryWf_congr (by simp) (by simp)).mpr)
    (fun w alu bus s hs =>
      (State.memoryWf_congr (s := runSink w alu bus s) (by simp [runBuses]) (by simp [runBuses])).mpr
        (runSink_memoryWf hs))
    (fun s u n hu hs => (State.memoryWf_congr (by simp) (by simp)).mpr (hu.memoryWf hs)) hs h

theorem State.stackPinned_congr {s t : State} (hsp : t.sp = s.sp) (hcfg : t.cfg = s.cfg) :
    t.stackPinned ↔ s.stackPinned := by
  rw [State.stackPinned, State.stackPinned, hsp, hcfg]

theorem State.Writes.stackPinned {s u : State} (h : s.Writes u) (hs : s.stackPinned) : u.stackPinned := by
  induction h with
  | none | out => exact hs
  | sp v _ _ => exact State.stackPinned_spFix _ v
  | slot k v _ ih => exact (State.stackPinned_congr (by simp) (by simp)).mpr ih
  | alu bank r _ ih => exact (State.stackPinned_congr (by simp) (by simp)).mpr ih
  | store a v _ ih => exact (State.stackPinned_congr (by simp) (by simp)).mpr ih
  | data _ _ ih | pc _ _ ih | bp _ _ ih | ma _ _ ih => exact ih

theorem runSink_stackPinned (w : BusAW) (alu : AluFields) (bus : Buses) {s : State} (hs : s.stackPinned) :
    (runSink w alu bus s).stackPinned := by
  obtain ⟨hcfg, -⟩ := runSink_keeps w alu bus s
  rw [State.stackPinned, hcfg, runSink_sp]
  split_ifs
  · exact s.stackPinned_spFix _
  · exact s.stackPinned_spFix _
  · exact s.stackPinned_spFix _
  · exact hs

/-- Settles O34: whatever writes `SP` ORs its base in. -/
theorem stepKeepsStackPinned : Obligations.StepKeepsStackPinned := fun s t hs h =>
  step_invariant (fun s => (State.stackPinned_congr (by simp) (by simp)).mpr)
    (fun w alu bus s hs =>
      (State.stackPinned_congr (s := runSink w alu bus s) (by simp [runBuses]) (by simp [runBuses])).mpr
        (runSink_stackPinned w alu bus hs))
    (fun s u n hu hs => (State.stackPinned_congr (by simp) (by simp)).mpr (hu.stackPinned hs)) hs h

/-! ### The clock -/

theorem State.clockInPhase_congr {s t : State} (hin : t.regIN.getLsbD 4 = s.regIN.getLsbD 4) (htick : t.tick = s.tick)
    (hcfg : t.cfg = s.cfg) : t.clockInPhase ↔ s.clockInPhase := by
  rw [State.clockInPhase, State.clockInPhase, hin, htick, hcfg]

/-- One more tick begins a new period when it is a multiple of the period. -/
theorem div_succ_parity (n p : Nat) :
    decide ((n + 1) / p % 2 = 1) = (decide (n / p % 2 = 1) != decide ((n + 1) % p = 0)) := by
  have hdiv : (n + 1) / p = n / p + if p ∣ n + 1 then 1 else 0 := Nat.succ_div
  by_cases h : p ∣ n + 1
  · rw [if_pos h] at hdiv
    rw [hdiv, decide_eq_true (Nat.mod_eq_zero_of_dvd h), Bool.bne_true, ← decide_not]
    exact decide_eq_decide.mpr (by omega)
  · rw [if_neg h] at hdiv
    rw [hdiv, decide_eq_false (fun h0 => h (Nat.dvd_of_mod_eq_zero h0)), Bool.bne_false]
    rfl

theorem State.clockInPhase_endTick {s : State} (h : s.clockInPhase) : s.endTick.clockInPhase := by
  obtain ⟨hp, hclock⟩ := h
  refine ⟨by simpa using hp, ?_⟩
  rw [State.endTick_input s 4 (by decide), hclock, State.endTick_tick, State.endTick_cfg, div_succ_parity]
  simp

theorem State.clockInPhase_pollInput {s : State} (h : s.clockInPhase) : s.pollInput.clockInPhase :=
  (State.clockInPhase_congr s.pollInput_clock (by simp) (by simp)).mpr h

theorem State.clockInPhase_idleTicks {s : State} (h : s.clockInPhase) (n : Nat) : (s.idleTicks n).clockInPhase := by
  induction n generalizing s with
  | zero => exact h
  | succ n ih => exact ih (clockInPhase_endTick (clockInPhase_pollInput h))

/-- Settles O35: a tick keeps the phase, and nothing else writes `IN[4]`. -/
theorem stepKeepsClockInPhase : Obligations.StepKeepsClockInPhase := fun s t hs h => by
  refine step_invariant (P := State.clockInPhase) (fun _ => State.clockInPhase_pollInput) (fun w alu bus s hs => ?_)
    (fun s u n hu hs => ?_) hs h
  · obtain ⟨hcfg, -, htick, -, hin⟩ := runSink_keeps w alu bus s
    exact State.clockInPhase_endTick ((State.clockInPhase_congr (congrArg (BitVec.getLsbD · 4) hin) htick hcfg).mpr hs)
  · obtain ⟨hcfg, -, htick, hin⟩ := hu.keeps
    have hfetch : u.fetchNext.clockInPhase :=
      (State.clockInPhase_congr (congrArg (BitVec.getLsbD · 4) hin) htick hcfg).mpr hs
    exact State.clockInPhase_idleTicks (State.clockInPhase_endTick hfetch) n

/-! ### The trace -/

/-- From `s` to `t` events are appended, in their order, each numbered by a micro-cycle of that time. -/
def State.appends (s t : State) : Prop :=
  s.tick ≤ t.tick ∧ ∃ events, t.trace = s.trace ++ events ∧ (∀ e ∈ events, s.tick < e.1 ∧ e.1 ≤ t.tick) ∧
    events.Pairwise (fun e f => e.1 < f.1)

theorem State.appends.trans {s u t : State} (hsu : s.appends u) (hut : u.appends t) : s.appends t := by
  obtain ⟨htick, events, htrace, hevents, hrise⟩ := hsu
  obtain ⟨htick', later, htrace', hlater, hrise'⟩ := hut
  refine ⟨htick.trans htick', events ++ later, by rw [htrace', htrace, List.append_assoc], fun e he => ?_, ?_⟩
  · rcases List.mem_append.mp he with he | he
    · have := hevents e he
      omega
    · have := hlater e he
      omega
  · refine List.pairwise_append.mpr ⟨hrise, hrise', fun e he f hf => ?_⟩
    have := hevents e he
    have := hlater f hf
    omega

/-- At most one event, of the first micro-cycle. -/
theorem State.appends_of_event {s t : State} {events : List (Nat × Byte)} (htick : s.tick < t.tick)
    (htrace : t.trace = s.trace ++ events) (hevents : events = [] ∨ ∃ v, events = [(s.tick + 1, v)]) : s.appends t := by
  refine ⟨htick.le, events, htrace, ?_, ?_⟩
  · obtain rfl | ⟨v, rfl⟩ := hevents
    · simp
    · simpa using htick
  · obtain rfl | ⟨v, rfl⟩ := hevents
    · exact .nil
    · exact List.pairwise_singleton _ _

theorem State.Writes.trace {s u : State} (h : s.Writes u) :
    ∃ events, u.trace = s.trace ++ events ∧ (events = [] ∨ ∃ v, events = [(s.tick + 1, v)]) := by
  induction h with
  | none => exact ⟨[], (List.append_nil _).symm, .inl rfl⟩
  | out v => exact ⟨_, rfl, .inr ⟨v, rfl⟩⟩
  | slot | alu | store => simpa
  | data _ _ ih | pc _ _ ih | sp _ _ ih | bp _ _ ih | ma _ _ ih => exact ih

theorem exec_appends {i : Instr} {s t : State} (h : exec i s = .next t) : s.appends t := by
  obtain ⟨-, htick⟩ := exec_advances h
  obtain ⟨w, alu, bus, hr⟩ | ⟨u, n, hu, hr⟩ := exec_cases i s
  · obtain rfl : t = runBuses w alu bus s := by simpa using h.symm.trans hr
    refine State.appends_of_event htick (runSink_trace w alu bus s) ?_
    split
    · exact .inr ⟨_, rfl⟩
    · exact .inl rfl
  · obtain rfl : t = u.finish (n + 1) := by simpa using h.symm.trans hr
    obtain ⟨events, htrace, hevents⟩ := hu.trace
    exact State.appends_of_event htick ((State.finish_trace u _).trans htrace) hevents

theorem State.pollInput_appends (s t : State) : s.pollInput.appends t ↔ s.appends t := by
  simp [State.appends]

/-- Settles O36: every instruction appends events of its own time. -/
theorem stepKeepsTraceOrdered : Obligations.StepKeepsTraceOrdered := by
  unfold Obligations.StepKeepsTraceOrdered
  rintro s t ⟨hrise, hpast⟩ h
  obtain ⟨htick, events, htrace, hevents, hrise'⟩ := step_rel (R := State.appends) (fun _ _ _ => State.appends.trans)
    (fun _ s t hi => (s.pollInput_appends t).mp (exec_appends hi)) s t h
  refine ⟨⟨?_, fun e he => ?_⟩, events, htrace, fun e he => (hevents e he).1⟩
  · rw [htrace]
    refine List.pairwise_append.mpr ⟨hrise, hrise', fun e he f hf => ?_⟩
    have := hpast e he
    have := hevents f hf
    omega
  · rcases List.mem_append.mp (htrace ▸ he) with he | he
    · exact (hpast e he).trans htick
    · exact (hevents e he).2

/-! ### Reset -/

theorem sp_resetWith (g : Config) : (State.resetWith g).sp = joinBytes g.spBaseHi 0 := rfl

theorem resetWith_sound {g : Config} (hg : 1 ≤ g.clkTogglePeriod) : (State.resetWith g).sound := by
  refine ⟨⟨rfl, rfl⟩, ?_, ⟨hg, ?_⟩, List.Pairwise.nil, fun e he => (nomatch he)⟩
  · rw [State.stackPinned, sp_resetWith, hiByte_joinBytes]
    exact BitVec.and_self
  · have htick : (State.resetWith g).tick / (State.resetWith g).cfg.clkTogglePeriod = 0 := Nat.zero_div _
    have hin : (State.resetWith g).regIN = 0 := rfl
    rw [htick, hin]
    decide

/-- Settles O38: of a reset state only `SP` and the period are not constants. -/
theorem resetIsSound : Obligations.ResetIsSound := ⟨fun _ => resetWith_sound, resetWith_sound (by decide)⟩

/-- Settles O39: the values of the reset state, read place by place. -/
theorem resetValues : Obligations.ResetValues := by
  unfold Obligations.ResetValues
  intro s
  refine ⟨rfl, rfl, fun k => by cases k <;> exact ⟨rfl, rfl⟩, ?_, fun a => ?_, fun p hflag hsp => ?_, rfl⟩
  · have hsp : s.hostReset.sp = joinBytes s.cfg.spBaseHi 0 := rfl
    rw [hsp, toNat_joinBytes]
    exact Nat.add_zero _
  · by_cases ha : a.toNat < s.cfg.bootSize
    · rw [if_pos ha, State.memRead, State.memRead, if_pos ha]
      exact if_pos ha
    · rw [if_neg ha]
      exact if_neg ha
  · cases p with
    | slot k => cases k <;> rfl
    | carry k => exact absurd rfl (hflag k).1
    | zero k => exact absurd rfl (hflag k).2
    | sp => exact absurd rfl hsp
    | d | t | i | input | out | pc | bp | ma | cycle | tick => rfl

/-- The no-op word is in step 0 of opcode 0x00, so the first micro-cycle fetches (R222, R323). -/
theorem controlWord_resetWith {g : Config} (h : (State.resetWith g).runsXref) :
    (State.resetWith g).controlWord = 0x007C := by
  have hword : xrefWord 0 0 (false, false) = 0x007C := by decide
  rw [State.controlWord_xref h, ← hword]
  rfl

/-- Settles O40: `I` is 0 after reset, so the word of the first micro-cycle is the fetch. -/
theorem firstMicroCycleFetches : Obligations.FirstMicroCycleFetches := by
  unfold Obligations.FirstMicroCycleFetches
  intro g hfill h0 h1
  have hstep := step_tick_eq (s := State.resetWith g) rfl
  rw [controlWord_resetWith ⟨hfill, h0, h1⟩, State.pollInput_eq] at hstep
  exact ⟨_, hstep, rfl, rfl, rfl, rfl⟩

end Sys2Proof.Machine
end

section
set_option Elab.async false

namespace Sys2Proof.Machine

/-! ### Frames of the writes of an instruction -/

section
variable (u : State)

theorem keepsBut_setSlot (k : Slot) (v : Byte) : u.keepsBut (u.setSlot k v) [.slot k] := by
  intro p hp
  cases p with
  | slot j => simp only [State.at, u.slot_setSlot, if_neg (show j ≠ k from fun h => hp (by simp [h]))]
  | d | t | i | input | out | pc | sp | bp | ma | carry | zero | cycle | tick => cases k <;> rfl

theorem keepsBut_latchAlu (bank : Bool) (r : AluOut 8) :
    u.keepsBut (u.latchAlu bank r) [.t, .carry bank, .zero bank] := by
  obtain ⟨-, hcarry, hzero⟩ := u.latchAlu_spec bank r
  intro p hp
  cases p with
  | t => exact absurd (by simp) hp
  | carry j => rw [State.at, State.at, hcarry, if_neg (fun h => hp (by simp [h]))]
  | zero j => rw [State.at, State.at, hzero, if_neg (fun h => hp (by simp [h]))]
  | slot | d | i | input | out | pc | sp | bp | ma | cycle | tick => cases bank <;> rfl

theorem keepsBut_memWrite (a : Addr) (v : Byte) : u.keepsBut (u.memWrite a v) [] := by
  intro p _
  unfold State.memWrite
  split
  · rfl
  · cases p <;> rfl

theorem keepsBut_data (v : Byte) : u.keepsBut { u with regD := v } [.d] := by
  intro p hp
  cases p with
  | d => exact absurd (by simp) hp
  | slot | t | i | input | out | pc | sp | bp | ma | carry | zero | cycle | tick => rfl

theorem keepsBut_pc (v : Addr) : u.keepsBut { u with pc := v } [.pc] := by
  intro p hp
  cases p with
  | pc => exact absurd (by simp) hp
  | slot | d | t | i | input | out | sp | bp | ma | carry | zero | cycle | tick => rfl

theorem keepsBut_sp (v : Addr) : u.keepsBut { u with sp := v } [.sp] := by
  intro p hp
  cases p with
  | sp => exact absurd (by simp) hp
  | slot | d | t | i | input | out | pc | bp | ma | carry | zero | cycle | tick => rfl

theorem keepsBut_bp (v : Addr) : u.keepsBut { u with bp := v } [.bp] := by
  intro p hp
  cases p with
  | bp => exact absurd (by simp) hp
  | slot | d | t | i | input | out | pc | sp | ma | carry | zero | cycle | tick => rfl

theorem keepsBut_ma (v : Addr) : u.keepsBut { u with ma := v } [.ma] := by
  intro p hp
  cases p with
  | ma => exact absurd (by simp) hp
  | slot | d | t | i | input | out | pc | sp | bp | carry | zero | cycle | tick => rfl

theorem keepsBut_out (v : Byte) : u.keepsBut (sinkOut v u) [.out] := by
  intro p hp
  cases p with
  | out => exact absurd (by simp) hp
  | slot | d | t | i | input | pc | sp | bp | ma | carry | zero | cycle | tick => rfl

/-- The closing fetch writes what it may (R221). -/
theorem keepsBut_finish (n : Nat) : u.keepsBut (u.finish n) fetchPlaces := by
  intro p hp
  cases p with
  | slot j => cases j <;> simp [State.at, State.slot]
  | carry j => simp [State.at, State.carryOf]
  | zero j => simp [State.at, State.zeroOf]
  | i | pc | cycle | tick | input => exact absurd (by simp [fetchPlaces]) hp
  | d | t | out | sp | bp | ma => simp [State.at]

end

theorem State.keepsBut.trans {s u v : State} {l l' : List Place} (hsu : s.keepsBut u l) (huv : u.keepsBut v l')
    (hl : l' ⊆ l) : s.keepsBut v l := fun p hp =>
  (huv p fun h => hp (hl h)).trans (hsu p hp)

/-- `u` is made of `s` by writes of an instruction, to the listed places and with no event. Nothing is said of what they do
to memory. -/
structure State.Edits (s u : State) (written : List Place) : Prop where
  writes : s.Writes u
  keeps : s.keepsBut u written
  silent : s.silent u

namespace State.Edits

variable {s u : State} {l : List Place}

theorem start (s : State) (l : List Place) : s.Edits s l := ⟨.none, fun _ _ => rfl, rfl⟩

theorem slot (h : s.Edits u l) (k : Slot) (v : Byte) (hl : [.slot k] ⊆ l) : s.Edits (u.setSlot k v) l :=
  ⟨h.writes.slot k v, h.keeps.trans (keepsBut_setSlot u k v) hl, (State.setSlot_trace u k v).trans h.silent⟩

theorem alu (h : s.Edits u l) (bank : Bool) (r : AluOut 8) (hl : [.t, .carry bank, .zero bank] ⊆ l) :
    s.Edits (u.latchAlu bank r) l :=
  ⟨h.writes.alu bank r, h.keeps.trans (keepsBut_latchAlu u bank r) hl, (State.latchAlu_trace u bank r).trans h.silent⟩

theorem store (h : s.Edits u l) (a : Addr) (v : Byte) : s.Edits (u.memWrite a v) l :=
  ⟨h.writes.store a v, h.keeps.trans (keepsBut_memWrite u a v) (List.nil_subset l),
    (State.memWrite_trace u a v).trans h.silent⟩

theorem data (h : s.Edits u l) (v : Byte) (hl : [.d] ⊆ l) : s.Edits { u with regD := v } l :=
  ⟨h.writes.data v, h.keeps.trans (keepsBut_data u v) hl, h.silent⟩

theorem pc (h : s.Edits u l) (v : Addr) (hl : [.pc] ⊆ l) : s.Edits { u with pc := v } l :=
  ⟨h.writes.pc v, h.keeps.trans (keepsBut_pc u v) hl, h.silent⟩

theorem sp (h : s.Edits u l) (v : Addr) (hl : [.sp] ⊆ l) : s.Edits { u with sp := u.spFix v } l :=
  ⟨h.writes.sp v, h.keeps.trans (keepsBut_sp u (u.spFix v)) hl, h.silent⟩

theorem bp (h : s.Edits u l) (v : Addr) (hl : [.bp] ⊆ l) : s.Edits { u with bp := v } l :=
  ⟨h.writes.bp v, h.keeps.trans (keepsBut_bp u v) hl, h.silent⟩

theorem ma (h : s.Edits u l) (v : Addr) (hl : [.ma] ⊆ l) : s.Edits { u with ma := v } l :=
  ⟨h.writes.ma v, h.keeps.trans (keepsBut_ma u v) hl, h.silent⟩

end State.Edits

/-- After its writes an instruction ends with the fetch at the `PC` they left (R221). -/
theorem State.Writes.endsInstruction {s u : State} (h : s.Writes u) (n : Nat) :
    s.endsInstruction (u.finish (n + 1)) (n + 1) u.pc := by
  obtain ⟨hcfg, hmode, htick, hin⟩ := h.keeps
  obtain ⟨hI, hpc, hcycle, hticks, hinput⟩ := State.finish_spec u (n + 1) (Nat.succ_pos n)
  refine ⟨hI.trans (State.memRead_finish u (n + 1) u.pc).symm, hpc, hcycle, htick ▸ hticks, ?_, ?_, ?_⟩
  · exact hinput.trans (State.elapse_input_congr (n + 1) hin htick hcfg)
  · exact (State.finish_cfg u (n + 1)).trans hcfg
  · exact (State.finish_mode u (n + 1)).trans hmode

theorem fetchPlaces_subset (l : List Place) : fetchPlaces ⊆ l ++ fetchPlaces := List.subset_append_right _ _

/-- What a chain of writes and the fetch behind it leave alone. -/
theorem State.Edits.ends {s u : State} {l : List Place} {next : Addr} (h : s.Edits u (l ++ fetchPlaces))
    (hpc : u.pc = next) (n : Nat) : s.endsInstruction (u.finish (n + 1)) (n + 1) next ∧ s.keepsBut (u.finish (n + 1)) (l ++ fetchPlaces) ∧
      s.silent (u.finish (n + 1)) :=
  ⟨hpc ▸ h.writes.endsInstruction n, h.keeps.trans (keepsBut_finish u (n + 1)) (fetchPlaces_subset l),
    (State.finish_trace u (n + 1)).trans h.silent⟩

/-- An instruction that stores nothing. -/
theorem State.Edits.instruction {s u : State} {l : List Place} {next : Addr} (h : s.Edits u (l ++ fetchPlaces))
    (hram : u.ram = s.ram) (hpc : u.pc = next) (n : Nat) : s.instruction (u.finish (n + 1)) (n + 1) next l := by
  obtain ⟨hcfg, -⟩ := h.writes.keeps
  obtain ⟨hend, hkeeps, hsilent⟩ := h.ends hpc n
  exact ⟨hend, hkeeps, fun a => (State.memRead_finish u (n + 1) a).trans (State.memRead_congr hram hcfg a), hsilent⟩

/-! ### Opcodes that move bytes -/

theorem finish_slot (u : State) (n : Nat) (k : Slot) : (u.finish n).slot k = u.slot k := by
  cases k <;> simp [State.slot]

theorem finish_carryOf (u : State) (n : Nat) (k : Bool) : (u.finish n).carryOf k = u.carryOf k := by
  simp [State.carryOf]

theorem finish_zeroOf (u : State) (n : Nat) (k : Bool) : (u.finish n).zeroOf k = u.zeroOf k := by
  simp [State.zeroOf]

/-- An instruction that writes one general register and fetches. -/
theorem setSlot_instruction (s : State) (k : Slot) (v : Byte) :
    ((s.setSlot k v).finish 2).slot k = v ∧ s.instruction ((s.setSlot k v).finish 2) 2 s.pc [.slot k] := by
  have h := (State.Edits.start s ([.slot k] ++ fetchPlaces)).slot k v (by simp)
  exact ⟨(finish_slot _ 2 k).trans (s.slot_setSlot_self k v),
    h.instruction (State.setSlot_ram s k v) (State.setSlot_pc s k v) 1⟩

/-- Settles O41: no write before the fetch. -/
theorem noOperationInstructions : Obligations.NoOperationInstructions := by
  unfold Obligations.NoOperationInstructions
  intro s op
  have h : s.instruction (s.finish 1) 1 s.pc [] := (State.Edits.start s _).instruction rfl rfl 0
  simp only [List.forall_mem_cons]
  exact ⟨⟨_, rfl, h⟩, ⟨_, rfl, h⟩, ⟨_, rfl, h⟩, ⟨_, rfl, h⟩, ⟨_, rfl, h⟩, fun _ h => (nomatch h)⟩

/-- Settles O42: `HLT` is the micro-cycle of `AW.RST`. -/
theorem haltSpins : Obligations.HaltSpins := fun s =>
  ⟨_, rfl, drive_microCycle .rst .reg .reg .pc ControlWord.noop.alu s (by decide) (by decide)⟩

/-- Settles O43: `OUT` has its one event before the fetch, `IN` writes a general register. -/
theorem inputAndOutput : Obligations.InputAndOutput := by
  unfold Obligations.InputAndOutput
  intro r s
  refine ⟨⟨(sinkOut (s.slot r) s).finish 2, rfl, ?_, ?_, (State.Writes.out (s.slot r)).endsInstruction 1, ?_,
    fun a => ?_⟩, _, rfl, setSlot_instruction s r s.regIN⟩
  · simp [sinkOut]
  · simp [sinkOut, State.emit]
  · have hout : s.keepsBut (sinkOut (s.slot r) s) (.out :: fetchPlaces) :=
      State.keepsBut.trans (fun _ _ => rfl) (keepsBut_out s (s.slot r)) (by simp)
    exact hout.trans (keepsBut_finish _ 2) (List.subset_cons_self _ _)
  · exact State.memRead_finish (sinkOut (s.slot r) s) 2 a

end Sys2Proof.Machine
end

section
set_option Elab.async false

namespace Sys2Proof.Machine

theorem toNat_loByte (v : Addr) : (loByte v).toNat = v.toNat % 256 := by
  simp [loByte]

theorem toNat_hiByte (v : Addr) : (hiByte v).toNat = v.toNat / 256 := by
  have := v.isLt
  simp only [hiByte, BitVec.extractLsb'_toNat, Nat.shiftRight_eq_div_pow]
  omega

theorem setSlot_instruction_toNat (s : State) (k : Slot) {v : Byte} {n : Nat} (hv : v.toNat = n) :
    (((s.setSlot k v).finish 2).slot k).toNat = n ∧ s.instruction ((s.setSlot k v).finish 2) 2 s.pc [.slot k] := by
  obtain ⟨hslot, hend⟩ := setSlot_instruction s k v
  exact ⟨(congrArg BitVec.toNat hslot).trans hv, hend⟩

/-- Settles O44: each of them writes a general register, `MOVI` with its operand skipped. -/
theorem byteMoves : Obligations.ByteMoves := by
  unfold Obligations.ByteMoves
  intro r imm s
  have hmovi : s.Edits ((s.setSlot r imm).skip 1) ([.slot r] ++ fetchPlaces) :=
    ((State.Edits.start s _).slot r imm (by simp)).pc _ (by simp [fetchPlaces])
  have hpc : ((s.setSlot r imm).skip 1).pc = s.pc + 1 := congrArg (· + 1) (State.setSlot_pc s r imm)
  exact ⟨⟨_, rfl, (finish_slot _ 3 r).trans (s.slot_setSlot_self r imm),
      hmovi.instruction (State.setSlot_ram s r imm) hpc 2⟩,
    ⟨_, rfl, setSlot_instruction_toNat s r (toNat_loByte s.bp)⟩,
    ⟨_, rfl, setSlot_instruction_toNat s r (toNat_hiByte s.bp)⟩,
    ⟨_, rfl, setSlot_instruction_toNat s r (toNat_loByte s.sp)⟩,
    ⟨_, rfl, setSlot_instruction_toNat s r (toNat_hiByte s.sp)⟩⟩

/-! ### Opcodes of the ALU -/

/-- `ARITH 9` without the carry input (R163). -/
theorem alu8_sum (a b : Byte) :
    (alu8 a b ⟨9, .arith, false⟩).f = a + b ∧
    (alu8 a b ⟨9, .arith, false⟩).carry = decide (256 ≤ a.toNat + b.toNat) := by
  obtain ⟨hf, hcarry⟩ := alu8_add a b false
  exact ⟨hf.trans (BitVec.eq_of_toNat_eq (by simp)), hcarry⟩

/-- `ARITH 6` with the carry input: the difference, carry meaning no borrow (R160, R190). -/
theorem alu8_difference (a b : Byte) :
    (alu8 a b ⟨6, .arith, true⟩).f = a - b ∧ (alu8 a b ⟨6, .arith, true⟩).carry = decide (b ≤ a) := by
  obtain ⟨hf, hcarry⟩ := alu8_sub a b true
  refine ⟨hf.trans (by simp), hcarry.trans (decide_eq_decide.mpr ?_)⟩
  exact Nat.add_le_add_iff_right

/-- The rules of `AND`, `OR`, `XOR` and `MOV`, with the carry of the sum of their terms (R176, R180, R181, R184, D8). -/
theorem alu8_bitwise (a b : Byte) :
    ((alu8 a b ⟨11, .logic, false⟩).f = a &&& b ∧ (alu8 a b ⟨11, .logic, false⟩).carry = decide (a &&& b ≠ 0)) ∧
    ((alu8 a b ⟨14, .logic, false⟩).f = a ||| b ∧
      (alu8 a b ⟨14, .logic, false⟩).carry = decide (256 ≤ (a ||| ~~~b).toNat + a.toNat)) ∧
    ((alu8 a b ⟨6, .logic, false⟩).f = a ^^^ b ∧ (alu8 a b ⟨6, .logic, false⟩).carry = decide (b < a)) ∧
    ((alu8 a b ⟨10, .logic, false⟩).f = b ∧
      (alu8 a b ⟨10, .logic, false⟩).carry = decide (256 ≤ (a ||| ~~~b).toNat + (a &&& b).toNat)) := by
  obtain ⟨hand, handc⟩ : _ ∧ _ = decide (256 ≤ (0xFF : Byte).toNat + (a &&& b).toNat + false.toNat) :=
    alu8_logic false (logic_terms a b (0xB, a &&& b, 0xFF, a &&& b) (by simp))
  obtain ⟨hxor, hxorc⟩ : _ ∧ _ = decide (256 ≤ (a ||| ~~~b).toNat + (a &&& ~~~b).toNat + false.toNat) :=
    alu8_logic false (logic_terms a b (6, a ^^^ b, a ||| ~~~b, a &&& ~~~b) (by simp))
  have hterms : (aluP a b 6).toNat + (aluG a b 6).toNat = a.toNat + (~~~b).toNat :=
    arithmetic_terms a b (6, a, ~~~b) (by simp)
  obtain ⟨-, hp, hg⟩ : _ ∧ aluP a b 6 = a ||| ~~~b ∧ aluG a b 6 = a &&& ~~~b :=
    logic_terms a b (6, a ^^^ b, a ||| ~~~b, a &&& ~~~b) (by simp)
  refine ⟨⟨hand, handc.trans (decide_eq_decide.mpr ?_)⟩,
    alu8_logic false (logic_terms a b (0xE, a ||| b, a ||| ~~~b, a) (by simp)),
    ⟨hxor, hxorc.trans (decide_eq_decide.mpr ?_)⟩,
    alu8_logic false (logic_terms a b (0xA, b, a ||| ~~~b, a &&& b) (by simp))⟩
  · have hff : (0xFF : Byte).toNat = 255 := rfl
    have h0 : (0 : Byte).toNat = 0 := rfl
    rw [Ne, ← BitVec.toNat_inj, hff, h0, Bool.toNat_false]
    omega
  · have ha := a.isLt
    have hb := b.isLt
    rw [hp, hg, BitVec.toNat_not] at hterms
    rw [hterms, Bool.toNat_false, BitVec.lt_def]
    omega

/-- The end of an instruction of the ALU, `u` being what it has written before its result. -/
theorem aluToSlot_instruction {s u : State} {bank : Bool} {alu : AluFields} {r : Slot} {b f : Byte} {carry : Bool}
    {l : List Place} {next : Addr} (hu : s.Edits u ((l ++ [.t, .carry bank, .zero bank]) ++ fetchPlaces))
    (hram : u.ram = s.ram)
    (hpc : u.pc = next) (hr : .slot r ∈ l)
    (hf : (alu8 (u.slot r) b alu).f = f ∧ (alu8 (u.slot r) b alu).carry = carry) (n : Nat) :
    ((aluToSlot bank alu r b u).finish (n + 1)).slot r = f ∧
    s.aluInstruction ((aluToSlot bank alu r b u).finish (n + 1)) (n + 1) next bank f carry l := by
  obtain ⟨rfl, rfl⟩ := hf
  obtain ⟨hT, hcarry, hzero⟩ := u.latchAlu_spec bank (alu8 (u.slot r) b alu)
  have hedits : s.Edits (aluToSlot bank alu r b u) ((l ++ [.t, .carry bank, .zero bank]) ++ fetchPlaces) :=
    (hu.alu bank _ (by simp)).slot r _ (by simp [hr])
  have hend := hedits.instruction (next := next) (by simpa [aluToSlot] using hram) (by simpa [aluToSlot] using hpc) n
  refine ⟨(finish_slot _ _ r).trans (State.slot_setSlot_self _ r _), ?_, ?_, ?_, hend⟩
  · simpa [aluToSlot] using hT
  · rw [finish_carryOf, ← (hcarry bank).trans (if_pos rfl)]
    simp [aluToSlot, State.carryOf]
  · rw [finish_zeroOf, ← alu8_zero, ← (hzero bank).trans (if_pos rfl)]
    simp [aluToSlot, State.zeroOf]

/-- A register instruction of the ALU. -/
theorem register_instruction {s : State} {bank : Bool} {alu : AluFields} {r : Slot} {b f : Byte} {carry : Bool}
    (hf : (alu8 (s.slot r) b alu).f = f ∧ (alu8 (s.slot r) b alu).carry = carry) :
    ∃ t, (.next ((aluToSlot bank alu r b s).finish 3) : Result) = .next t ∧ t.slot r = f ∧
      s.aluInstruction t 3 s.pc bank f carry [.slot r] :=
  ⟨_, rfl, aluToSlot_instruction (State.Edits.start s _) rfl rfl (by simp) hf 2⟩

/-- Settles O45: one function of the ALU for each. -/
theorem registerArithmetic : Obligations.RegisterArithmetic := by
  unfold Obligations.RegisterArithmetic
  rintro r1 r2 s a b rfl rfl
  obtain ⟨hand, hor, hxor, hmov⟩ := alu8_bitwise (s.slot r1) (s.slot r2)
  exact ⟨register_instruction (alu8_sum _ _), register_instruction (alu8_difference _ _), register_instruction hand,
    register_instruction hor, register_instruction hxor, register_instruction (alu8_inc _ _),
    register_instruction (alu8_dec _ _), register_instruction hmov⟩

/-- An immediate instruction of the ALU. -/
theorem immediate_instruction {s : State} {alu : AluFields} {r : Slot} {imm f : Byte} {carry : Bool}
    (hf : (alu8 (s.slot r) imm alu).f = f ∧ (alu8 (s.slot r) imm alu).carry = carry) :
    let t := (aluToSlot false alu r imm (takeImm imm s)).finish 5
    t.slot r = f ∧ t.regD = imm ∧ s.aluInstruction t 5 (s.pc + 1) false f carry [.slot r, .d] := by
  have himm : s.Edits (takeImm imm s) (([.slot r, .d] ++ [.t, .carry false, .zero false]) ++ fetchPlaces) :=
    ((State.Edits.start s _).data imm (by simp)).pc _ (by simp [fetchPlaces])
  obtain ⟨hslot, hend⟩ := aluToSlot_instruction (next := s.pc + 1) himm rfl rfl (by simp) hf 4
  refine ⟨hslot, ?_, hend⟩
  simp [aluToSlot, takeImm]

/-- Settles O46: one function of the ALU for each, on the immediate; `CMPI` keeps its result in `T`. -/
theorem immediateArithmetic : Obligations.ImmediateArithmetic := by
  unfold Obligations.ImmediateArithmetic
  rintro r imm s a rfl
  obtain ⟨hadci, hdadci, hend⟩ := immediate_instruction (alu8_add (s.slot r) imm s.c0)
  obtain ⟨hf, hc⟩ := alu8_difference (s.slot r) imm
  have hcmpi : s.Edits ((takeImm imm s).latchAlu false (alu8 (s.slot r) imm ⟨6, .arith, true⟩))
      (([.d] ++ [.t, .carry false, .zero false]) ++ fetchPlaces) :=
    (((State.Edits.start s _).data imm (by simp)).pc _ (by simp [fetchPlaces])).alu false _ (by simp)
  obtain ⟨hT, hcarry, hzero⟩ := (takeImm imm s).latchAlu_spec false (alu8 (s.slot r) imm ⟨6, .arith, true⟩)
  refine ⟨⟨_, rfl, immediate_instruction (alu8_sum _ _)⟩, ⟨_, rfl, immediate_instruction (alu8_difference _ _)⟩,
    ⟨_, rfl, ?_, hdadci, ?_⟩, ⟨_, rfl, ?_, ?_, ?_, ?_, hcmpi.instruction rfl rfl 3⟩⟩
  · rw [hadci, BitVec.toNat_ofNat]
  · rwa [hadci]
  · simp [takeImm]
  · exact (State.finish_regT _ 4).trans (hT.trans hf)
  · exact (finish_carryOf _ 4 false).trans ((hcarry false).trans hc)
  · exact (finish_zeroOf _ 4 false).trans ((hzero false).trans ((alu8_zero _ _ _).trans (by rw [hf])))

end Sys2Proof.Machine
end

section
set_option Elab.async false

namespace Sys2Proof.Machine

/-! ### Opcodes of memory and stack -/

/-- Settles O47: `LD` writes `MA`, a general register and `PC`, `LDBP` a general register. -/
theorem loads : Obligations.Loads := by
  unfold Obligations.Loads
  intro r addr s
  have hld : s.Edits ((State.setSlot { s with ma := addr } r (s.memRead addr)).skip 2) ([.slot r, .ma] ++ fetchPlaces) :=
    (((State.Edits.start s _).ma addr (by simp)).slot r _ (by simp)).pc _ (by simp [fetchPlaces])
  refine ⟨⟨_, rfl, ?_, by simp, hld.instruction (by simp) (by simp [State.skip]) 5⟩, _, rfl, setSlot_instruction s r _⟩
  exact (finish_slot _ 6 r).trans (State.slot_setSlot_self _ r _)

/-- One byte stored by an instruction (R54). -/
theorem storesByte_finish {s u : State} (hram : u.ram = s.ram) (hcfg : u.cfg = s.cfg) (a : Addr) (v : Byte) (n : Nat) :
    s.storesByte ((u.memWrite a v).finish n) a v := fun x => by
  rw [State.memRead_finish, State.memRead_memWrite, hcfg, State.memRead_congr hram hcfg]

/-- Settles O48: `ST` writes `MA`, one byte and `PC`, `STBP` one byte. -/
theorem stores : Obligations.Stores := by
  unfold Obligations.Stores
  intro r addr s
  have hst : s.Edits ((State.memWrite { s with ma := addr } addr (s.slot r)).skip 2) ([.ma] ++ fetchPlaces) :=
    (((State.Edits.start s _).ma addr (by simp)).store addr _).pc _ (by simp [fetchPlaces])
  have hstbp : s.Edits (s.memWrite s.bp (s.slot r)) ([] ++ fetchPlaces) := (State.Edits.start s _).store s.bp _
  have hbyte : s.storesByte (((State.memWrite { s with ma := addr } addr (s.slot r)).skip 2).finish 6) addr
      (s.slot r) := by
    rw [← State.memWrite_skip]
    exact storesByte_finish (u := State.skip { s with ma := addr } 2) rfl rfl addr _ 6
  have hpc : ((State.memWrite { s with ma := addr } addr (s.slot r)).skip 2).pc = s.pc + 2 := by
    rw [← State.memWrite_skip]
    exact State.memWrite_pc _ _ _
  have hstend := hst.ends hpc 5
  refine ⟨⟨_, rfl, hbyte, ?_, hstend⟩, _, rfl, storesByte_finish (u := s) rfl rfl s.bp _ 2,
    hstbp.ends (State.memWrite_pc s _ _) 1⟩
  simp

theorem toNat_spFix_sub_one (s : State) (v : Addr) :
    (s.spFix (v - 1)).toNat = withBase s.cfg.spBaseHi ((v.toNat + 65535) % 65536) := by
  rw [toNat_spFix, toNat_sub_one]

theorem toNat_spFix_add_one (s : State) (v : Addr) :
    (s.spFix (v + 1)).toNat = withBase s.cfg.spBaseHi ((v.toNat + 1) % 65536) := by
  rw [toNat_spFix, toNat_add_one]

theorem State.Edits.push {s u : State} {l : List Place} (h : s.Edits u l) (v : Byte) (hl : [.sp] ⊆ l) :
    s.Edits (pushByte v u) l := (h.sp (u.sp - 1) hl).store _ v

theorem State.Edits.spInc {s u : State} {l : List Place} (h : s.Edits u l) (hl : [.sp] ⊆ l) :
    s.Edits (sinkSpInc u) l := h.sp (u.sp + 1) hl

/-- Settles O49: `PUSH` is one push, `POP` writes a general register and counts `SP` up. -/
theorem pushAndPop : Obligations.PushAndPop := by
  unfold Obligations.PushAndPop
  intro r s
  obtain ⟨hsp, hmem⟩ := pushByte_spec (s.slot r) s
  have hpush : s.Edits (pushByte (s.slot r) s) ([.sp] ++ fetchPlaces) := (State.Edits.start s _).push _ (by simp)
  have hpop : s.Edits (sinkSpInc (s.setSlot r (s.memRead s.sp))) ([.slot r, .sp] ++ fetchPlaces) :=
    ((State.Edits.start s _).slot r _ (by simp)).spInc (by simp)
  refine ⟨⟨(pushByte (s.slot r) s).finish 3, rfl, ?_, fun x => ?_, hpush.ends (pushByte_pc _ s) 2⟩, _, rfl, ?_, ?_,
    hpop.instruction (by simp [sinkSpInc]) (by simp [sinkSpInc]) 2⟩
  · rw [State.finish_sp, hsp, toNat_spFix_sub_one]
  · rw [State.memRead_finish, State.finish_sp, hsp, hmem]
  · exact (finish_slot _ 3 r).trans (State.slot_setSlot_self s r _)
  · rw [State.finish_sp, sinkSpInc_sp, toNat_spFix_add_one, State.setSlot_sp, State.setSlot_cfg]

/-- Settles O50: each of them writes one pair. -/
theorem pointerMoves : Obligations.PointerMoves := by
  unfold Obligations.PointerMoves
  intro addr s
  have hmovbp : s.Edits (State.skip { s with bp := addr } 2) ([.bp] ++ fetchPlaces) :=
    ((State.Edits.start s _).bp addr (by simp)).pc _ (by simp [fetchPlaces])
  have hmovsp : s.Edits (State.skip { s with sp := s.spFix addr } 2) ([.sp] ++ fetchPlaces) :=
    ((State.Edits.start s _).sp addr (by simp)).pc _ (by simp [fetchPlaces])
  have hbp : ∀ v, s.Edits { s with bp := v } ([.bp] ++ fetchPlaces) := fun v => (State.Edits.start s _).bp v (by simp)
  refine ⟨⟨_, rfl, by simp, hmovbp.instruction rfl rfl 4⟩, ⟨_, rfl, ?_, hmovsp.instruction rfl rfl 4⟩,
    ⟨_, rfl, ?_, (hbp (s.bp + 1)).instruction rfl rfl 1⟩, ⟨_, rfl, ?_, (hbp (s.bp - 1)).instruction rfl rfl 1⟩⟩
  · rw [State.finish_sp]
    exact toNat_spFix s addr
  · rw [State.finish_bp]
    exact toNat_add_one s.bp
  · rw [State.finish_bp]
    exact toNat_sub_one s.bp

/-! ### Opcodes that transfer control -/

/-- The two ways a jump ends. -/
theorem jump_ends (addr : Addr) (s : State) (taken : Bool) :
    ∃ t, (.next (if taken then jumpTo addr s else fallThrough s) : Result) = .next t ∧
      if taken then t.regD.toNat = addr.toNat % 256 ∧ s.instruction t 5 addr [.d]
      else s.instruction t 3 (s.pc + 2) [] := by
  have hjump : s.Edits { s with regD := loByte addr, pc := addr } ([.d] ++ fetchPlaces) :=
    ((State.Edits.start s _).data (loByte addr) (by simp)).pc addr (by simp [fetchPlaces])
  have hfall : s.Edits (s.skip 2) ([] ++ fetchPlaces) := (State.Edits.start s _).pc _ (by simp [fetchPlaces])
  cases taken with
  | true =>
    refine ⟨_, rfl, ?_, hjump.instruction rfl rfl 4⟩
    rw [if_pos rfl, jumpTo, State.finish_regD]
    exact toNat_loByte addr
  | false => exact ⟨_, rfl, hfall.instruction rfl rfl 2⟩

/-- Settles O51: each jump is taken or not, as its flag says. -/
theorem jumps : Obligations.Jumps := by
  unfold Obligations.Jumps
  intro addr s
  have hnot : ∀ b : Bool, (if b then fallThrough s else jumpTo addr s) = if !b then jumpTo addr s else fallThrough s :=
    fun b => by cases b <;> rfl
  have hjnc : exec (.jnc addr) s = .next (if !s.c0 then jumpTo addr s else fallThrough s) := congrArg _ (hnot s.c0)
  have hjnz : exec (.jnz addr) s = .next (if !s.z0 then jumpTo addr s else fallThrough s) := congrArg _ (hnot s.z0)
  simp only [List.forall_mem_cons, hjnc, hjnz]
  exact ⟨jump_ends addr s true, jump_ends addr s s.c0, jump_ends addr s (!s.c0), jump_ends addr s s.z0,
    jump_ends addr s (!s.z0), fun _ h => (nomatch h)⟩

end Sys2Proof.Machine
end

section
set_option Elab.async false

namespace Sys2Proof.Machine

/-! ### The stack of `CALL` and `RET` -/

/-- Two pushes, the second on top. -/
theorem pushes_spec {u : State} {hi lo : Byte} {first second : Addr} (hfirst : u.spFix (u.sp - 1) = first)
    (hsecond : u.spFix (first - 1) = second) :
    (pushByte lo (pushByte hi u)).sp = second ∧
    ∀ x, (pushByte lo (pushByte hi u)).memRead x =
      if x = second ∧ u.cfg.bootSize ≤ second.toNat then lo
      else if x = first ∧ u.cfg.bootSize ≤ first.toNat then hi else u.memRead x := by
  obtain ⟨hsp, hmem⟩ := pushByte_spec hi u
  obtain ⟨hsp', hmem'⟩ := pushByte_spec lo (pushByte hi u)
  have hcfg : (pushByte hi u).cfg = u.cfg := by simp [pushByte, sinkSpDec]
  have hfix : ∀ v, (pushByte hi u).spFix v = u.spFix v := fun v => by rw [State.spFix, hcfg, State.spFix]
  rw [hfirst] at hsp hmem
  rw [hfix, hsp, hsecond] at hsp' hmem'
  exact ⟨hsp', fun x => by rw [hmem', hcfg, hmem]⟩

/-- `CALL` before it reads its high operand byte: the low one in `D`, the address of the high one pushed (R241). -/
def State.pushReturn (s : State) (addr : Addr) : State :=
  pushByte (loByte (s.pc + 1)) (pushByte (hiByte (s.pc + 1)) (State.skip { s with regD := loByte addr } 1))

theorem exec_call (addr : Addr) (s : State) : exec (.call addr) s = .next (State.finish { s.pushReturn addr with
    pc := joinBytes ((s.pushReturn addr).memRead (s.pushReturn addr).pc) (loByte addr) } 9) := rfl

theorem pushReturn_pc (s : State) (addr : Addr) : (s.pushReturn addr).pc = s.pc + 1 := by
  simp [State.pushReturn, State.skip]

theorem pushReturn_regD (s : State) (addr : Addr) : (s.pushReturn addr).regD = loByte addr := by
  simp [State.pushReturn]

theorem pushReturn_edits (s : State) (addr : Addr) : s.Edits (s.pushReturn addr) ([.sp, .d] ++ fetchPlaces) :=
  ((((State.Edits.start s _).data (loByte addr) (by simp)).pc _ (by simp [fetchPlaces])).push _ (by simp)).push _
    (by simp)

/-- Settles O52: the operand into `D`, two pushes, and the jump. -/
theorem callPushesReturnAddress : Obligations.CallPushesReturnAddress := by
  unfold Obligations.CallPushesReturnAddress
  intro addr s first second hfirst hsecond
  have hf : s.spFix (s.sp - 1) = first := BitVec.eq_of_toNat_eq ((toNat_spFix_sub_one s s.sp).trans hfirst.symm)
  have hs : s.spFix (first - 1) = second := BitVec.eq_of_toNat_eq ((toNat_spFix_sub_one s first).trans hsecond.symm)
  obtain ⟨hsp, hmem⟩ : (s.pushReturn addr).sp = second ∧ ∀ x, (s.pushReturn addr).memRead x = _ :=
    pushes_spec (u := State.skip { s with regD := loByte addr } 1) hf hs
  have hu := (pushReturn_edits s addr).pc (joinBytes ((s.pushReturn addr).memRead (s.pushReturn addr).pc) (loByte addr))
    (by simp [fetchPlaces])
  obtain ⟨hend, hkeeps, hsilent⟩ := hu.ends rfl 8
  refine ⟨_, exec_call addr s, (State.finish_sp _ 9).trans hsp, ?_,
    fun x => (State.memRead_finish _ 9 x).trans (hmem x), ?_, hkeeps, hsilent⟩
  · rw [State.finish_regD, ← toNat_loByte]
    exact congrArg BitVec.toNat (pushReturn_regD s addr)
  · rw [← pushReturn_pc s addr, State.memRead_finish]
    exact hend

/-- Settles O53: the two pops, `D` keeping the low byte, and the jump. -/
theorem returnPopsAddress : Obligations.ReturnPopsAddress := by
  unfold Obligations.ReturnPopsAddress
  intro s second hsecond
  obtain rfl : s.spFix (s.sp + 1) = second := BitVec.eq_of_toNat_eq ((toNat_spFix_add_one s s.sp).trans hsecond.symm)
  have hu : s.Edits { sinkSpInc (sinkSpInc { s with regD := s.memRead s.sp }) with
      pc := joinBytes (s.memRead (s.spFix (s.sp + 1))) (s.memRead s.sp) + 1 } ([.sp, .d] ++ fetchPlaces) :=
    (((((State.Edits.start s _).data (s.memRead s.sp) (by simp)).spInc (by simp)).spInc (by simp)).pc _
      (by simp [fetchPlaces]))
  refine ⟨_, rfl, ?_, State.finish_regD _ 7, hu.instruction rfl rfl 6⟩
  rw [State.finish_sp]
  exact toNat_spFix_add_one s (s.spFix (s.sp + 1))

/-! ### `RET` after `CALL` -/

/-- The base is ORed into the high byte (R29). -/
theorem withBase_eq (base : Byte) (v : Nat) : withBase base v = (v / 256 ||| base.toNat) * 256 + v % 256 := by
  have hdiv : withBase base v / 256 = v / 256 ||| base.toNat := by
    rw [withBase, Nat.or_div_two_pow (n := 8), Nat.mul_div_cancel _ (by decide)]
  have hmod : withBase base v % 256 = v % 256 := by
    rw [withBase, Nat.or_mod_two_pow (n := 8), Nat.mul_mod_left, Nat.or_zero]
  have := Nat.div_add_mod (withBase base v) 256
  omega

theorem or_ff {n : Nat} (h : n < 256) : n ||| (0xFF : Byte).toNat = 255 := by
  have hor := congrArg BitVec.toNat (BitVec.or_allOnes (x := BitVec.ofNat 8 n))
  rw [BitVec.toNat_or, BitVec.toNat_ofNat, Nat.mod_eq_of_lt h] at hor
  exact hor

/-- One less of an `SP` in its page range, for a base of 0xFF or where the low byte does not borrow: it stays in the range,
and one more undoes it. -/
theorem withBase_pred {base : Byte} {v : Nat} (hv : v < 65536) (hpin : v / 256 ||| base.toNat = v / 256)
    (h : base = 0xFF ∨ 1 ≤ v % 256) :
    withBase base ((v + 65535) % 65536) / 256 = v / 256 ∧
    withBase base ((v + 65535) % 65536) % 256 = (v + 255) % 256 ∧
    withBase base ((withBase base ((v + 65535) % 65536) + 1) % 65536) = v := by
  obtain rfl | h := h
  · have hhigh := or_ff (n := v / 256) (by omega)
    have hpred : withBase 0xFF ((v + 65535) % 65536) = 65280 + (v + 255) % 256 := by
      rw [withBase_eq, or_ff (by omega)]
      omega
    rw [hpred, withBase_eq, or_ff (by omega)]
    omega
  · have hpred : withBase base ((v + 65535) % 65536) = v - 1 := by
      rw [withBase_eq, show (v + 65535) % 65536 / 256 = v / 256 by omega, hpin]
      omega
    rw [hpred, Nat.sub_add_cancel (by omega), Nat.mod_eq_of_lt hv, withBase_eq, hpin]
    omega

/-- A pinned `SP` has every bit of the base in its high byte (R29). -/
theorem State.stackPinned.or_base {s : State} (h : s.stackPinned) :
    s.sp.toNat / 256 ||| s.cfg.spBaseHi.toNat = s.sp.toNat / 256 := by
  have hor : hiByte s.sp ||| s.cfg.spBaseHi = hiByte s.sp := by
    rw [State.stackPinned] at h
    rw [← h]
    ext i hi
    simp only [BitVec.getElem_or, BitVec.getElem_and]
    cases (hiByte s.sp)[i] <;> rfl
  rw [← toNat_hiByte, ← BitVec.toNat_or, hor]

/-- Two decrements of a pinned `SP` give two addresses, and two increments undo them, for a base of 0xFF or where the low
byte does not borrow. -/
theorem State.stackPinned.round {s : State} {first second : Addr} (hpin : s.stackPinned)
    (hbase : s.cfg.spBaseHi = 0xFF ∨ 2 ≤ s.sp.toNat % 256)
    (hf : first.toNat = withBase s.cfg.spBaseHi ((s.sp.toNat + 65535) % 65536))
    (hs : second.toNat = withBase s.cfg.spBaseHi ((first.toNat + 65535) % 65536)) :
    first ≠ second ∧ s.spFix (second + 1) = first ∧ s.spFix (first + 1) = s.sp := by
  have hor := hpin.or_base
  obtain ⟨hpage, hlow, hback⟩ := withBase_pred s.sp.isLt hor (hbase.imp_right (by omega))
  rw [← hf] at hpage hlow hback
  obtain ⟨-, hlow', hback'⟩ := withBase_pred first.isLt (hpage ▸ hor) (hbase.imp_right (by omega))
  rw [← hs] at hlow' hback'
  refine ⟨fun h => ?_, BitVec.eq_of_toNat_eq ?_, BitVec.eq_of_toNat_eq ?_⟩
  · rw [h] at hlow'
    omega
  · rw [toNat_spFix_add_one, hback']
  · rw [toNat_spFix_add_one, hback]

/-- Settles O54: the two increments undo the two pushes, so that `RET` reads what they stored. -/
theorem returnUndoesCall : Obligations.ReturnUndoesCall := by
  unfold Obligations.ReturnUndoesCall
  intro addr s t u v hpin hbase hcall hsecond hfirst hcfg hsp hmem2 hmem1 hret
  have hf := toNat_spFix_sub_one s s.sp
  have hs := toNat_spFix_sub_one s (s.spFix (s.sp - 1))
  obtain ⟨hne, hup, hup'⟩ := hpin.round hbase hf hs
  obtain ⟨t', ht', htsp, -, htmem, ⟨-, -, -, -, -, htcfg, -⟩, -⟩ := callPushesReturnAddress addr s _ _ hf hs
  obtain rfl : t = t' := by simpa using hcall.symm.trans ht'
  have hfixt : ∀ a, t.spFix a = s.spFix a := fun a => by rw [State.spFix, htcfg, State.spFix]
  have hfixu : ∀ a, u.spFix a = s.spFix a := fun a => by rw [State.spFix, hcfg, htcfg, State.spFix]
  rw [htsp] at hsp hsecond
  rw [hfixt, htsp, hup] at hmem1 hfirst
  rw [htmem, if_neg (fun h => hne h.1), if_pos ⟨rfl, hfirst⟩] at hmem1
  rw [htsp, htmem, if_pos ⟨rfl, hsecond⟩] at hmem2
  obtain ⟨v', hv', hvsp, -, ⟨hI, hpc, -⟩, -, hmem, -⟩ := returnPopsAddress u _ (toNat_spFix_add_one u u.sp)
  obtain rfl : v = v' := by simpa using hret.symm.trans hv'
  rw [← toNat_spFix_add_one, hfixu, hfixu, hsp, hup, hup'] at hvsp
  rw [hfixu, hsp, hup, hmem1, hmem2, joinBytes_hiByte_loByte] at hI hpc
  refine ⟨BitVec.eq_of_toNat_eq hvsp, ?_, ?_⟩
  · rw [hI, hmem, add_one_add_one]
  · rw [hpc, BitVec.add_assoc, BitVec.add_assoc]
    rfl

end Sys2Proof.Machine
end

section
set_option Elab.async false

namespace Sys2Proof.Machine

/-! ### The entries of a descriptor -/

/-- A register in one of the first two places counts with the bits of its number (R203). -/
theorem width_eq (ks : ArgKinds) :
    ks.width = 2 ^ (([ks.first, ks.second].filter (fun k => k = .ab ∨ k = .xy)).length +
      2 * ([ks.first, ks.second].filter (fun k => k = .abxy)).length) := by
  obtain ⟨first, second, third⟩ := ks
  cases first <;> cases second <;> rfl

theorem admits_iff (r : FlagReq) (f : Bool) :
    r.admits f = true ↔ (r = .enable → f = true) ∧ (r = .disable → f = false) := by
  cases r <;> simp [FlagReq.admits]

/-- The copies of an entry are those whose flags meet both requirements (R206). -/
theorem Descriptor.mem_copies (d : Descriptor) (f : Bool × Bool) :
    f ∈ d.copies ↔ d.carry.admits f.1 = true ∧ d.zero.admits f.2 = true := by
  simp [Descriptor.copies, flags_mem f]

theorem entryIndex_eq (op step : Nat) (f : Bool × Bool) :
    entryIndex op step f = op * 64 + step * 4 + f.1.toNat * 2 + f.2.toNat := by
  simp only [entryIndex, stepLimit]
  omega

/-- The steps that are kept, each with its number (R204). -/
theorem mem_steps {steps : List CtrlBits} {w : CtrlBits} {step : Nat} :
    (w, step) ∈ (steps.take stepLimit).zipIdx ↔ step < 16 ∧ steps[step]? = some w := by
  rw [List.mem_zipIdx_iff_getElem?, List.getElem?_take, stepLimit]
  by_cases h : step < 16 <;> simp [h]

theorem Descriptor.mem_targets (d : Descriptor) (e : Nat × CtrlBits) :
    e ∈ d.targets ↔ ∃ op step f, op ∈ d.opcodes ∧ (step < 16 ∧ d.steps[step]? = some e.2) ∧ f ∈ d.copies ∧
      e.1 = entryIndex op step f := by
  obtain ⟨i, w⟩ := e
  simp only [Descriptor.targets, List.mem_flatMap, List.mem_map, ← mem_steps]
  constructor
  · rintro ⟨op, hop, ⟨v, step⟩, hstep, f, hf, he⟩
    obtain ⟨rfl, rfl⟩ := Prod.mk.inj he
    exact ⟨op, step, f, hop, hstep, hf, rfl⟩
  · rintro ⟨op, step, f, hop, hstep, hf, rfl⟩
    exact ⟨op, hop, (w, step), hstep, f, hf, rfl⟩

/-! ### The entries rise -/

/-- Entries by rising index. -/
abbrev Rises (l : List (Nat × CtrlBits)) : Prop := l.Pairwise (fun e f => e.1 < f.1)

theorem opcodes_rise (d : Descriptor) : d.opcodes.Pairwise (· < ·) :=
  List.pairwise_map.mpr ((List.pairwise_lt_range).imp fun h => Nat.add_lt_add_left h _)

theorem zipIdx_rises {α : Type} (l : List α) : l.zipIdx.Pairwise (fun x y => x.2 < y.2) := by
  have h : (l.zipIdx.map Prod.snd).Pairwise (· < ·) := by
    rw [List.zipIdx_map_snd]
    exact List.pairwise_lt_range'
  exact List.pairwise_map.mp h

theorem copies_rise (d : Descriptor) :
    d.copies.Pairwise (fun f g => f.1.toNat * 2 + f.2.toNat < g.1.toNat * 2 + g.2.toNat) := by
  have h : flagCopies.Pairwise (fun f g => f.1.toNat * 2 + f.2.toNat < g.1.toNat * 2 + g.2.toNat) := by decide
  exact h.filter _

/-- Opcode, step and flags are the digits of an index, so the order of the entries is that of their indices (R201). -/
theorem entryIndex_lt {op op' step step' : Nat} (f f' : Bool × Bool) (hstep : step < 16)
    (h : op < op' ∨ op = op' ∧ step < step') : entryIndex op step f < entryIndex op' step' f' := by
  have hc := f.1.toNat_lt
  have hz := f.2.toNat_lt
  rw [entryIndex_eq, entryIndex_eq]
  omega

theorem targets_rise (d : Descriptor) : Rises d.targets := by
  simp only [Rises, Descriptor.targets, List.pairwise_flatMap, List.pairwise_map, List.mem_flatMap]
  have hstep : ∀ x ∈ (d.steps.take stepLimit).zipIdx, x.2 < 16 := fun x hx => (mem_steps.mp hx).1
  refine ⟨fun op _ => ⟨fun x _ => ?_, ?_⟩, ?_⟩
  · refine (copies_rise d).imp fun h => ?_
    rw [entryIndex_eq, entryIndex_eq]
    omega
  · refine (zipIdx_rises _).imp_of_mem fun hx _ hlt e he f hf => ?_
    obtain ⟨c, -, rfl⟩ := List.mem_map.mp he
    obtain ⟨c', -, rfl⟩ := List.mem_map.mp hf
    exact entryIndex_lt c c' (hstep _ hx) (.inr ⟨rfl, hlt⟩)
  · refine (opcodes_rise d).imp fun hlt e ⟨x, hx, he⟩ f ⟨y, _, hf⟩ => ?_
    obtain ⟨c, -, rfl⟩ := List.mem_map.mp he
    obtain ⟨c', -, rfl⟩ := List.mem_map.mp hf
    exact entryIndex_lt c c' (hstep x hx) (.inl hlt)

/-! ### The merge -/

/-- What merging the entries `new` into `old` comes to: the error of the first of them that is written already, or both
together, still rising (R204, R207). -/
def MergeOutcome (old new : List (Nat × CtrlBits)) (r : Except GeneratorError (List (Nat × CtrlBits))) : Prop :=
  (∃ before f later, new = before ++ f :: later ∧ (∃ e ∈ old, e.1 = f.1) ∧ (∀ e ∈ old, ∀ f' ∈ before, e.1 ≠ f'.1) ∧
    r = .error (.duplicateOpcode (f.1 / 64) (f.1 / 4 % 16))) ∨
  ((∀ e ∈ old, ∀ f ∈ new, e.1 ≠ f.1) ∧ ∃ l, r = .ok l ∧ Rises l ∧ ∀ e, e ∈ l ↔ e ∈ old ∨ e ∈ new)

/-- An entry in front of the old ones and below all the new ones. -/
theorem MergeOutcome.cons_old {x : Nat × CtrlBits} {old new : List (Nat × CtrlBits)}
    {r : Except GeneratorError (List (Nat × CtrlBits))} (h : MergeOutcome old new r) (hold : ∀ e ∈ old, x.1 < e.1)
    (hnew : ∀ f ∈ new, x.1 < f.1) : MergeOutcome (x :: old) new (r.map (x :: ·)) := by
  obtain ⟨before, f, later, rfl, ⟨e, he, hef⟩, hbefore, rfl⟩ | ⟨hne, l, rfl, hl, hmem⟩ := h
  · refine .inl ⟨before, f, later, rfl, ⟨e, List.mem_cons_of_mem x he, hef⟩,
      List.forall_mem_cons.mpr ⟨fun f' hf' => ?_, hbefore⟩, rfl⟩
    exact (hnew f' (List.mem_append_left _ hf')).ne
  · refine .inr ⟨List.forall_mem_cons.mpr ⟨fun f hf => (hnew f hf).ne, hne⟩, x :: l, rfl, ?_, fun e => ?_⟩
    · exact List.pairwise_cons.mpr ⟨fun e he => ((hmem e).mp he).elim (hold e) (hnew e), hl⟩
    · rw [List.mem_cons, List.mem_cons, hmem, or_assoc]

/-- An entry in front of the new ones and below all the old ones. -/
theorem MergeOutcome.cons_new {x : Nat × CtrlBits} {old new : List (Nat × CtrlBits)}
    {r : Except GeneratorError (List (Nat × CtrlBits))} (h : MergeOutcome old new r) (hold : ∀ e ∈ old, x.1 < e.1)
    (hnew : ∀ f ∈ new, x.1 < f.1) : MergeOutcome old (x :: new) (r.map (x :: ·)) := by
  obtain ⟨before, f, later, rfl, hf, hbefore, rfl⟩ | ⟨hne, l, rfl, hl, hmem⟩ := h
  · refine .inl ⟨x :: before, f, later, rfl, hf, fun e he => List.forall_mem_cons.mpr ⟨?_, hbefore e he⟩, rfl⟩
    exact (hold e he).ne'
  · refine .inr ⟨fun e he => List.forall_mem_cons.mpr ⟨(hold e he).ne', hne e he⟩, x :: l, rfl, ?_, fun e => ?_⟩
    · exact List.pairwise_cons.mpr ⟨fun e he => ((hmem e).mp he).elim (hold e) (hnew e), hl⟩
    · rw [List.mem_cons, List.mem_cons, hmem, or_left_comm]

theorem mergeEntries_cons (fuel : Nat) (x y : Nat × CtrlBits) (old new : List (Nat × CtrlBits)) :
    mergeEntries (fuel + 1) (x :: old) (y :: new) =
      if x.1 = y.1 then .error (.duplicateOpcode (y.1 / 64) (y.1 / 4 % 16))
      else if x.1 < y.1 then (mergeEntries fuel old (y :: new)).map (x :: ·)
      else (mergeEntries fuel (x :: old) new).map (y :: ·) := by
  rw [mergeEntries]
  cases mergeEntries fuel old (y :: new) <;> cases mergeEntries fuel (x :: old) new <;> rfl

theorem mergeEntries_outcome (fuel : Nat) (old new : List (Nat × CtrlBits)) (hold : Rises old) (hnew : Rises new)
    (hfuel : old.length + new.length < fuel) : MergeOutcome old new (mergeEntries fuel old new) := by
  induction fuel generalizing old new with
  | zero => omega
  | succ fuel ih =>
    match old, new, hold, hnew with
    | old, [], hold, _ => exact .inr ⟨fun _ _ _ h => (nomatch h), old, by simp [mergeEntries], hold, by simp⟩
    | [], y :: new, _, hnew => exact .inr ⟨fun _ h => (nomatch h), y :: new, rfl, hnew, by simp⟩
    | x :: old, y :: new, hold, hnew =>
      obtain ⟨hx, hold'⟩ := List.pairwise_cons.mp hold
      obtain ⟨hy, hnew'⟩ := List.pairwise_cons.mp hnew
      simp only [List.length_cons] at hfuel
      rw [mergeEntries_cons]
      split_ifs with heq hlt
      · exact .inl ⟨[], y, new, rfl, ⟨x, List.mem_cons_self, heq⟩, fun _ _ _ h => (nomatch h), rfl⟩
      · have hrest := ih old (y :: new) hold' hnew (by simp only [List.length_cons]; omega)
        exact hrest.cons_old hx (List.forall_mem_cons.mpr ⟨hlt, fun f hf => hlt.trans (hy f hf)⟩)
      · have hlt' : y.1 < x.1 := by omega
        have hrest := ih (x :: old) new hold hnew' (by simp only [List.length_cons]; omega)
        exact hrest.cons_new (List.forall_mem_cons.mpr ⟨hlt', fun e he => hlt'.trans (hx e he)⟩) hy

/-! ### Adding a descriptor -/

theorem bits_eq_one_iff (k : ArgKind) : k.bits = 1 ↔ k = .ab ∨ k = .xy := by
  cases k <;> decide

theorem bits_ne_zero_iff (k : ArgKind) : k.bits ≠ 0 ↔ k = .ab ∨ k = .xy ∨ k = .abxy := by
  cases k <;> decide

/-- The arguments that the generator turns away (R203, U16). -/
theorem narrowThenRegister_iff (d : Descriptor) : d.narrowThenRegister = true ↔
    (d.args.first = .ab ∨ d.args.first = .xy) ∧ (d.args.second = .ab ∨ d.args.second = .xy ∨ d.args.second = .abxy) := by
  rw [Descriptor.narrowThenRegister, Bool.and_eq_true, decide_eq_true_iff, decide_eq_true_iff, bits_eq_one_iff,
    bits_ne_zero_iff]

theorem addInstruction_outcome {g : Generator} {d : Descriptor} (hargs : d.narrowThenRegister = false)
    (hblock : d.opcode.toNat + d.width ≤ 256) : g.addInstruction d =
      (mergeEntries (g.written.length + d.targets.length + 1) g.written d.targets).map
        fun l => { assigned := g.assigned ++ d.opcodes, written := l } := by
  have hpast : d.pastLastOpcode = false := decide_eq_false (by omega)
  simp only [Generator.addInstruction, hargs, hpast, Bool.false_eq_true, if_false]
  cases mergeEntries (g.written.length + d.targets.length + 1) g.written d.targets <;> rfl

/-- Settles O59: the entries are the products of opcodes, steps and copies, they rise, and the merge of rising entries
meets the first collision first. -/
theorem generatorNeverOverwrites : Obligations.GeneratorNeverOverwrites := by
  unfold Obligations.GeneratorNeverOverwrites
  refine ⟨fun d => ⟨width_eq d.args, d.mem_opcodes, fun i w => ?_⟩, fun g d hrises hargs hblock => ?_⟩
  · rw [d.mem_targets]
    simp only [d.mem_opcodes, d.mem_copies, admits_iff, entryIndex_eq]
    constructor
    · rintro ⟨op, step, ⟨c, z⟩, ⟨hlo, hhi⟩, ⟨hstep, hw⟩, ⟨⟨hc, hc'⟩, hz, hz'⟩, hi⟩
      exact ⟨op, step, c, z, hlo, hhi, hstep, hw, hc, hc', hz, hz', hi⟩
    · rintro ⟨op, step, c, z, hlo, hhi, hstep, hw, hc, hc', hz, hz', hi⟩
      exact ⟨op, step, (c, z), ⟨hlo, hhi⟩, ⟨hstep, hw⟩, ⟨⟨hc, hc'⟩, hz, hz'⟩, hi⟩
  · have hnarrow : d.narrowThenRegister = false := Bool.eq_false_iff.mpr fun h => hargs ((narrowThenRegister_iff d).mp h)
    rw [addInstruction_outcome hnarrow hblock]
    obtain ⟨before, f, later, htargets, hf, hbefore, hr⟩ | ⟨hne, l, hr, hl, hmem⟩ :=
      mergeEntries_outcome (g.written.length + d.targets.length + 1) g.written d.targets hrises (targets_rise d)
        (Nat.lt_succ_self _)
    · exact .inl ⟨before, f, later, htargets, hf, hbefore, congrArg _ hr⟩
    · refine .inr ⟨hne, _, congrArg _ hr, hl, hmem, fun op => ?_⟩
      simp [Generator.isOpcodeAssigned]

/-! ### The fill -/

theorem Memory.read_of_ne {blank : Nat → Byte} {m : List Host.Cell} {a : Nat} (h : ∀ c ∈ m, c.1 ≠ a) :
    Memory.read blank m a = blank a := by
  induction m with
  | nil => rfl
  | cons c m ih =>
    obtain ⟨hc, hm⟩ := List.forall_mem_cons.mp h
    rw [Memory.read, if_neg hc.symm, ih hm]

theorem read_bankOf_of_ne {blank : Nat → Byte} {noop : Byte} {byte : CtrlBits → Byte}
    {entries : List (Nat × CtrlBits)} {a : Nat}
    (h : ∀ e ∈ entries, e.1 ≠ a) : Memory.read blank (bankOf noop byte entries) a = blank a := by
  refine Memory.read_of_ne fun c hc => ?_
  obtain ⟨e, he, hec⟩ := List.mem_filterMap.mp hc
  split at hec
  · cases hec
  · cases hec
    exact h e he

/-- A bank reads as the byte of the entry, be it listed or not (R200, R208). -/
theorem read_bankOf_of_mem {blank : Nat → Byte} {noop : Byte} {byte : CtrlBits → Byte} {entries : List (Nat × CtrlBits)}
    {a : Nat} {w : CtrlBits} (hrises : Rises entries) (hblank : blank a = noop) (h : (a, w) ∈ entries) :
    Memory.read blank (bankOf noop byte entries) a = byte w := by
  induction entries with
  | nil => cases h
  | cons e entries ih =>
    obtain ⟨he, hrest⟩ := List.pairwise_cons.mp hrises
    have hcons : bankOf noop byte (e :: entries) =
        if byte e.2 = noop then bankOf noop byte entries else (e.1, byte e.2) :: bankOf noop byte entries := by
      rw [bankOf, List.filterMap_cons]
      split_ifs <;> rfl
    obtain rfl | h := List.mem_cons.mp h
    · rw [hcons]
      split_ifs with hw
      · rw [read_bankOf_of_ne fun f hf => (he f hf).ne', hblank, hw]
      · exact if_pos rfl
    · have hne : a ≠ e.1 := (he _ h).ne'
      rw [hcons]
      split_ifs
      · exact ih hrest h
      · exact (if_neg hne).trans (ih hrest h)

/-- Settles O60: each bank reads as the bytes of the entries and as the no-op word's byte elsewhere. -/
theorem finalizedStoreHasNoHole : Obligations.FinalizedStoreHasNoHole := by
  unfold Obligations.FinalizedStoreHasNoHole
  intro g cfg a hrises hfill hbanks
  obtain ⟨h0, h1⟩ := Prod.mk.inj hbanks
  have hblank0 : rom0Blank .noop a.toNat = 0x7C := (by decide : loByte 0x007C = 0x7C)
  have hblank1 : rom1Blank .noop a.toNat = 0x00 := (by decide : hiByte 0x007C = 0x00)
  rw [romWord, hfill, h0, h1]
  refine ⟨fun w hw => ?_, fun hnone => ?_⟩
  · rw [read_bankOf_of_mem hrises hblank0 hw, read_bankOf_of_mem hrises hblank1 hw, controlBits_loByte_hiByte]
  · have hne : ∀ e ∈ g.written, e.1 ≠ a.toNat := fun e he h => hnone e.2 (h ▸ he)
    rw [read_bankOf_of_ne hne, read_bankOf_of_ne hne]
    exact controlBits_loByte_hiByte 0x007C

end Sys2Proof.Machine
end
